-- ==== Sys2Proof/Word.lean ====
section
/-! DEFINITION. The two word types of the machine (rule R16): general registers and bus data are 8 bits
wide, register pairs, SP, PC and addresses are 16 bits wide. -/

namespace Sys2Proof

/-- An 8-bit value: a general register, a bus datum, an instruction byte (R16). -/
abbrev Byte := BitVec 8

/-- A 16-bit value: a register pair, SP, PC, an address (R16). -/
abbrev Word := BitVec 16

end Sys2Proof
end

