-- ==== Sys2Proof/Machine/Bits.lean ====
section
/-! DEFINITION. Bytes of a word, extension and the opcode fields (rules R18, R20, R102). -/

namespace Sys2Proof

/-- R18: bits 15..8 of a 16-bit value. -/
def hi (v : Word) : Byte := v.extractLsb' 8 8

/-- R18: bits 7..0 of a 16-bit value. -/
def lo (v : Word) : Byte := v.extractLsb' 0 8

/-- R18: h ++ l, the 16-bit value whose high byte is h. -/
def join (h l : Byte) : Word := h ++ l

/-- R20: the same number as a 16-bit value. -/
def zext16 (b : Byte) : Word := b.setWidth 16

/-- R20: two's-complement sign extension of a byte to 16 bits. -/
def sext16 (b : Byte) : Word := b.signExtend 16

/-- The byte 1 or 0. -/
def bitByte (b : Bool) : Byte := if b then 1 else 0

/-- R102: the opcode's field x, bits 7..6. -/
def fieldX (op : Byte) : Nat := op.toNat / 64

/-- R102: the opcode's field y, bits 5..3. -/
def fieldY (op : Byte) : Nat := op.toNat / 8 % 8

/-- R102: the opcode's field z, bits 2..0. -/
def fieldZ (op : Byte) : Nat := op.toNat % 8

/-- R102: the opcode's field p, bits 5..4. -/
def fieldP (op : Byte) : Nat := fieldY op / 2

/-- R102: the opcode's field q, bit 3. -/
def fieldQ (op : Byte) : Nat := fieldY op % 2

end Sys2Proof
end

