-- ==== Sys2Proof/Machine/Selectors.lean ====
section
/-! DEFINITION. The operands and operations an opcode's selector fields name, with their numbering
(rules R103, R104, R210). -/

namespace Sys2Proof

/-- R103: the seven 8-bit registers a selector names. -/
inductive Reg8 where
  | b | c | d | e | h | l | a
deriving DecidableEq, Repr

/-- R103: an operand of the 3-bit register/memory selector; atHL is the memory byte at address HL. -/
inductive Operand8 where
  | reg (r : Reg8)
  | atHL
deriving DecidableEq, Repr

/-- R104: the 16-bit registers xx[p]. -/
inductive Pair where
  | bc | de | hl | sp
deriving DecidableEq, Repr

/-- R104: the stack pairs xs[p]. -/
inductive StackPair where
  | bc | de | hl | af
deriving DecidableEq, Repr

/-- R210: the four condition predicates. -/
inductive Cond where
  | nz | z | nc | c
deriving DecidableEq, Repr

/-- R104: the eight operations alu[y]. -/
inductive AluOp where
  | add | adc | sub | sbc | and | xor | or | cp
deriving DecidableEq, Repr

/-- R104: the eight operations rot[y] of the extended map. -/
inductive RotOp where
  | rlc | rrc | rl | rr | sla | sra | swap | srl
deriving DecidableEq, Repr

/-- R103: the register of a selector value other than 6. -/
def Reg8.ofSelector : Nat → Reg8
  | 0 => .b
  | 1 => .c
  | 2 => .d
  | 3 => .e
  | 4 => .h
  | 5 => .l
  | _ => .a

/-- R103: the operand of a selector value. -/
def Operand8.ofSelector : Nat → Operand8
  | 6 => .atHL
  | n => .reg (Reg8.ofSelector n)

/-- R104: xx[p]. -/
def Pair.ofSelector : Nat → Pair
  | 0 => .bc
  | 1 => .de
  | 2 => .hl
  | _ => .sp

/-- R104: xs[p]. -/
def StackPair.ofSelector : Nat → StackPair
  | 0 => .bc
  | 1 => .de
  | 2 => .hl
  | _ => .af

/-- R104, R210: cc. -/
def Cond.ofSelector : Nat → Cond
  | 0 => .nz
  | 1 => .z
  | 2 => .nc
  | _ => .c

/-- R104: alu[y]. -/
def AluOp.ofSelector : Nat → AluOp
  | 0 => .add
  | 1 => .adc
  | 2 => .sub
  | 3 => .sbc
  | 4 => .and
  | 5 => .xor
  | 6 => .or
  | _ => .cp

/-- R104: rot[y]. -/
def RotOp.ofSelector : Nat → RotOp
  | 0 => .rlc
  | 1 => .rrc
  | 2 => .rl
  | 3 => .rr
  | 4 => .sla
  | 5 => .sra
  | 6 => .swap
  | _ => .srl

/-- R103: a register's selector value. -/
def Reg8.code : Reg8 → Nat
  | .b => 0
  | .c => 1
  | .d => 2
  | .e => 3
  | .h => 4
  | .l => 5
  | .a => 7

/-- R103: an operand's selector value. -/
def Operand8.code : Operand8 → Nat
  | .reg r => r.code
  | .atHL => 6

/-- R104: the selector value of a 16-bit register. -/
def Pair.code : Pair → Nat
  | .bc => 0
  | .de => 1
  | .hl => 2
  | .sp => 3

/-- R104: the selector value of a stack pair. -/
def StackPair.code : StackPair → Nat
  | .bc => 0
  | .de => 1
  | .hl => 2
  | .af => 3

/-- R104, R210: the selector value of a condition. -/
def Cond.code : Cond → Nat
  | .nz => 0
  | .z => 1
  | .nc => 2
  | .c => 3

/-- R104: the selector value of an ALU operation. -/
def AluOp.code : AluOp → Nat
  | .add => 0
  | .adc => 1
  | .sub => 2
  | .sbc => 3
  | .and => 4
  | .xor => 5
  | .or => 6
  | .cp => 7

/-- R104: the selector value of a rotate or shift. -/
def RotOp.code : RotOp → Nat
  | .rlc => 0
  | .rrc => 1
  | .rl => 2
  | .rr => 3
  | .sla => 4
  | .sra => 5
  | .swap => 6
  | .srl => 7

end Sys2Proof
end

