-- ==== Sys2Proof/Config.lean ====
section
/-! DEFINITION. What the spec leaves to the implementation (rule R17): the named parameters, as one configuration that the
state carries; the open values, as opaque constants without a body; and the choices this model fixes, each named in a log
entry. -/

namespace Sys2Proof.Machine

/-- What stands behind an address (R74 to R77, R83): plain memory, memory that ignores writes, a device, nothing. -/
inductive AddressKind where
  | plain | readOnly | device | unmapped
deriving DecidableEq, Repr

/-- The addresses first to last, all of one kind. -/
structure Region where
  first : Word
  last : Word
  kind : AddressKind
deriving DecidableEq, Repr

/-- R280: the four kinds of error report; the core never reports unknown (R284). -/
inductive ErrKind where
  | invalidOpcode | invalidRead | invalidWrite | unknown
deriving DecidableEq, Repr

/-- R286, R288: the five interrupt sources. -/
inductive IrqSource where
  | verticalBlank | displayController | timer | serial | inputControl
deriving DecidableEq, Repr

end Sys2Proof.Machine

namespace Sys2Proof.Config

/-! ## Open values -/

/-- R295, D10: the cycles an interrupt entry adds to the count a step returns.
OPEN in the spec, which bounds it by 231; a free value here (log 8). -/
opaque irqEntryCycles : Fin 232

/-- R12, R16, R17, R330: what a step returns when its costs, in cost tables other than the recommended ones, sum past the
255 that the returned 8 bits hold. The spec does not state it (R298 says only that the recommended costs fit); a free value,
applied to the sum (log 22). -/
opaque countPastByte : Nat → Byte

/-- R74, R75: the call that reaches a device. -/
inductive DeviceCall where
  | read (addr : Word)
  | write (addr : Word) (value : Byte)
deriving DecidableEq, Repr

/-- R74, R306: what the bus adapter does when a device address is accessed: the byte that answers a read; the levels it
leaves on the five request and five enable lines; the bytes of memory it changes as a side effect of the access; and the
regions whose kind the access changes, for example by marking an address unmapped. -/
structure DeviceResponse where
  byte : Byte
  pending : BitVec 5
  enabled : BitVec 5
  stores : List (Word × Byte)
  remaps : List Machine.Region
deriving DecidableEq, Repr, Inhabited

/-- R74, R306, I5: what the bus adapter does at the n-th device access, given the call; a free value, applied to the
counter State.oracle (log 6). -/
opaque deviceResponse : Nat → DeviceCall → DeviceResponse

/-! ## The parameters of rule R17 -/

/-- R17: the named parameters that are numbers and tables. The three cost tables list the entries that differ from the
recommended tables of rules R333 to R335 (log 21); the first entry for an opcode counts. -/
structure Params where
  /-- BATCH_SIZE. -/
  batchSize : Nat
  /-- IRQ_VECTOR, by line. -/
  irqVector : Vector Word 5
  /-- IRQ_BIT, by source in the order of IrqSource. -/
  irqBit : Vector (Fin 5) 5
  /-- RST_VECTOR. -/
  rstVector : Vector Word 8
  /-- CYCLES. -/
  cycles : List (Byte × Nat)
  /-- CYCLES_CB. -/
  cyclesExtended : List (Byte × Nat)
  /-- TAKEN_EXTRA. -/
  takenExtra : List (Byte × Nat)
  /-- IF_ADDR; no rule of the core reads it. -/
  ifAddr : Word
  /-- IE_ADDR; no rule of the core reads it. -/
  ieAddr : Word
  /-- ERR_CODE, by kind in the order of ErrKind. -/
  errCode : Vector Nat 4
deriving DecidableEq, Repr

/-- R17, R56: the fields of the parameter RESET that the spec leaves unspecified. -/
structure ResetValues where
  a : Byte
  b : Byte
  c : Byte
  d : Byte
  e : Byte
  h : Byte
  l : Byte
  sp : Word
  fZ : Bool
  fN : Bool
  fH : Bool
  fC : Bool
deriving DecidableEq, Repr

/-- R56: the recommended values, those of the original console after its boot program
(PRESUMED, log 2). -/
def resetValues : ResetValues where
  a := 0x01
  b := 0x00
  c := 0x13
  d := 0x00
  e := 0xD8
  h := 0x01
  l := 0x4D
  sp := 0xFFFE
  fZ := true
  fN := false
  fH := true
  fC := true

/-- R56, D21: the address of the first instruction after reset. -/
def resetPC : Word := 0x0100

/-! ## Choices -/

/-- What a byte of memory that nothing has written reads as (DESIGN CHOICE, log 1). -/
def unlistedByte : Byte := 0x00

end Sys2Proof.Config
end

