-- ==== Sys2Proof/Machine/Params.lean ====
section
/-! DEFINITION. The parameters of rule R17: the recommended value of each, and how an operation reads one from the
configuration a state carries (log 17, log 21). -/

namespace Sys2Proof.Machine

/-! ## Constants -/

/-- R17 HIGH_PAGE, R73: given by the document, not open. -/
def highPage : Word := 0xFF00

/-- R73, R109: the address of an offset into the high page. -/
def highPageAddr (offset : Byte) : Word := highPage + zext16 offset

/-- R76: what an unmapped read gives. -/
def unmappedByte : Byte := 0xFF

/-! ## The recommended cost tables -/

/-- R333: CYCLES, rows 0x to 3x; a conditional transfer's entry is its base cost. -/
def cyclesRows03 : List Nat :=
  [4, 12, 8, 8, 4, 4, 8, 4, 20, 8, 8, 8, 4, 4, 8, 4] ++
  [4, 12, 8, 8, 4, 4, 8, 4, 12, 8, 8, 8, 4, 4, 8, 4] ++
  [8, 12, 8, 8, 4, 4, 8, 4, 8, 8, 8, 8, 4, 4, 8, 4] ++
  [8, 12, 8, 8, 12, 12, 12, 4, 8, 8, 8, 8, 4, 4, 8, 4]

/-- R333: CYCLES, rows 4x to 7x. -/
def cyclesRows47 : List Nat :=
  [4, 4, 4, 4, 4, 4, 8, 4, 4, 4, 4, 4, 4, 4, 8, 4] ++
  [4, 4, 4, 4, 4, 4, 8, 4, 4, 4, 4, 4, 4, 4, 8, 4] ++
  [4, 4, 4, 4, 4, 4, 8, 4, 4, 4, 4, 4, 4, 4, 8, 4] ++
  [8, 8, 8, 8, 8, 8, 4, 8, 4, 4, 4, 4, 4, 4, 8, 4]

/-- R333: CYCLES, rows 8x to Bx. -/
def cyclesRows8B : List Nat :=
  [4, 4, 4, 4, 4, 4, 8, 4, 4, 4, 4, 4, 4, 4, 8, 4] ++
  [4, 4, 4, 4, 4, 4, 8, 4, 4, 4, 4, 4, 4, 4, 8, 4] ++
  [4, 4, 4, 4, 4, 4, 8, 4, 4, 4, 4, 4, 4, 4, 8, 4] ++
  [4, 4, 4, 4, 4, 4, 8, 4, 4, 4, 4, 4, 4, 4, 8, 4]

/-- R333: CYCLES, rows Cx to Fx; the entry of the prefix byte is not used (R334). -/
def cyclesRowsCF : List Nat :=
  [8, 12, 12, 16, 12, 16, 8, 16, 8, 16, 12, 0, 12, 24, 8, 16] ++
  [8, 12, 12, 4, 12, 16, 8, 16, 8, 16, 12, 4, 12, 4, 8, 16] ++
  [12, 12, 8, 4, 4, 16, 8, 16, 16, 4, 16, 4, 4, 4, 8, 16] ++
  [12, 12, 8, 4, 4, 16, 8, 16, 12, 8, 16, 4, 4, 4, 8, 16]

/-- R333: the recommended CYCLES[op], the base cost of a primary opcode. -/
def cyclesPrimary (op : Byte) : Nat :=
  (cyclesRows03 ++ cyclesRows47 ++ cyclesRows8B ++ cyclesRowsCF).getD op.toNat 0

/-- R334: the recommended CYCLES_CB[op2], the cost of a whole prefixed instruction. -/
def cyclesExtended (op2 : Byte) : Nat :=
  if fieldZ op2 = 6 then (if fieldX op2 = 1 then 12 else 16) else 8

/-- R335: the recommended TAKEN_EXTRA[op], what a taken conditional transfer adds. -/
def takenExtra (op : Byte) : Nat :=
  if op ∈ [0x20, 0x28, 0x30, 0x38, 0xC2, 0xCA, 0xD2, 0xDA] then 4
  else if op ∈ [0xC4, 0xCC, 0xD4, 0xDC, 0xC0, 0xC8, 0xD0, 0xD8] then 12
  else 0

/-! ## The recommended parameters -/

/-- R17: the column of recommended values. -/
def defaultParams : Config.Params where
  batchSize := 3
  irqVector := #v[0x0040, 0x0048, 0x0050, 0x0058, 0x0060]
  irqBit := #v[0, 1, 2, 3, 4]
  rstVector := #v[0x0000, 0x0008, 0x0010, 0x0018, 0x0020, 0x0028, 0x0030, 0x0038]
  cycles := []
  cyclesExtended := []
  takenExtra := []
  ifAddr := 0xFF0F
  ieAddr := 0xFFFF
  errCode := #v[0, 1, 2, 3]

/-! ## Reading a parameter -/

/-- IRQ_VECTOR[line], R286: the entry address of a line. -/
def entryAddress (p : Config.Params) (line : Fin 5) : Word := p.irqVector[line]

/-- RST_VECTOR[y], R222: the target of a restart. -/
def restartAddress (p : Config.Params) (y : Fin 8) : Word := p.rstVector[y]

/-- IRQ_BIT, R52: the line of a source. -/
def lineOf (p : Config.Params) : IrqSource → Fin 5
  | .verticalBlank => p.irqBit[0]
  | .displayController => p.irqBit[1]
  | .timer => p.irqBit[2]
  | .serial => p.irqBit[3]
  | .inputControl => p.irqBit[4]

/-- ERR_CODE, R280: the number of an error kind. -/
def errorCode (p : Config.Params) : ErrKind → Nat
  | .invalidOpcode => p.errCode[0]
  | .invalidRead => p.errCode[1]
  | .invalidWrite => p.errCode[2]
  | .unknown => p.errCode[3]

/-- The entry of a cost table: the listed one, otherwise the recommended one. -/
def tableEntry : List (Byte × Nat) → (Byte → Nat) → Byte → Nat
  | [], recommended, op => recommended op
  | (k, n) :: rest, recommended, op => if k = op then n else tableEntry rest recommended op

/-- CYCLES[op], R333. -/
def baseCost (p : Config.Params) (op : Byte) : Nat := tableEntry p.cycles cyclesPrimary op

/-- CYCLES_CB[op2], R334. -/
def extendedCost (p : Config.Params) (op2 : Byte) : Nat := tableEntry p.cyclesExtended cyclesExtended op2

/-- TAKEN_EXTRA[op], R335. -/
def takenCost (p : Config.Params) (op : Byte) : Nat := tableEntry p.takenExtra takenExtra op

/-- R335, R111: the condition a conditional transfer tests, none for every other opcode. -/
def conditionOf (op : Byte) : Option Cond :=
  if op ∈ [0x20, 0xC2, 0xC4, 0xC0] then some .nz
  else if op ∈ [0x28, 0xCA, 0xCC, 0xC8] then some .z
  else if op ∈ [0x30, 0xD2, 0xD4, 0xD0] then some .nc
  else if op ∈ [0x38, 0xDA, 0xDC, 0xD8] then some .c
  else none

end Sys2Proof.Machine
end

