-- ==== Sys2Proof/Machine/State.lean ====
section
/-! DEFINITION. The state of the machine as plain data: the register file (rule R30), the lines of the IRQ port
(R52), what stands behind the bus (R70, R83), the parameters (R17), and the outputs of the last step (R12, R285). -/

namespace Sys2Proof.Machine

/-- R44: the five fields of the deferred representation of N and H. -/
structure Deferred where
  /-- The first operand before the operation. -/
  nhA : Byte
  /-- The second operand before the operation. -/
  nhB : Byte
  /-- The carry-in or borrow-in. -/
  nhCin : Bool
  /-- The result, kept consistent with the operands (Safety.lean, Deferred.wf). -/
  nhRes : Byte
  /-- The operation was a subtraction. -/
  nhSub : Bool
deriving DecidableEq, Repr

/-- R44, R46: the flags N and H, in either representation of FLAG_REPR. -/
inductive NHFlags where
  /-- The two bits fN and fH. -/
  | direct (n h : Bool)
  /-- The operands they are computed from on demand (R45). -/
  | lazyNH (d : Deferred)
deriving DecidableEq, Repr

/-- R10, R11, R13: one call the core makes on a port. -/
inductive PortEvent where
  /-- read_byte(addr), answered with value. -/
  | read (addr : Word) (value : Byte)
  /-- write_byte(addr, value). -/
  | write (addr : Word) (value : Byte)
  /-- report_error(kind, detail). -/
  | report (kind : ErrKind) (detail : Word)
  /-- IrqClear(line). -/
  | irqClear (line : Fin 5)
deriving DecidableEq, Repr

/-- The bytes that differ from Config.unlistedByte, by rising address (Memory.wf). -/
abbrev Memory := List Host.Cell

/-- R30: the register file, with the environment's values the core reads and the outputs of the last step. -/
structure State where
  /-- R31. -/
  a : Byte
  /-- R32: the high half of BC. -/
  b : Byte
  /-- R32: the low half of BC. -/
  c : Byte
  /-- R32: the high half of DE. -/
  d : Byte
  /-- R32: the low half of DE. -/
  e : Byte
  /-- R32: the high half of HL. -/
  h : Byte
  /-- R32: the low half of HL. -/
  l : Byte
  /-- R33: the address of the most recently pushed byte. -/
  sp : Word
  /-- R34: the address of the next byte to fetch. -/
  pc : Word
  /-- R36: the zero flag. -/
  fZ : Bool
  /-- R36, R44: the flags N and H. -/
  nh : NHFlags
  /-- R36: the carry flag. -/
  fC : Bool
  /-- R50: interrupt master enable. -/
  ime : Bool
  /-- R51: instruction fetch is suspended. -/
  halted : Bool
  /-- R52: IF, the request lines; bit n is line n. -/
  irqPending : BitVec 5
  /-- R52: IE, the enable lines; the core never writes them. -/
  irqEnabled : BitVec 5
  /-- R70: what the plain and the read-only addresses hold. -/
  mem : Memory
  /-- R17, R83: the platform's map; the first region that holds an address gives its kind, an address in none is plain. -/
  busMap : List Region
  /-- R17: the implementation's parameters; no operation writes them (log 21). -/
  params : Config.Params
  /-- R12, R16, R330: the cycle count of the step, the 8 bits it returns (log 10). -/
  cycles : Byte
  /-- R81, R285: the port calls of the step, oldest first (log 10). -/
  trace : List PortEvent
  /-- The model's own: how many device accesses have been made (log 6). -/
  oracle : Nat
deriving DecidableEq, Repr

/-- Why the machine stops. The spec names no fault at all (R325). -/
inductive Fault where
  /-- Raised by step if the decoder rejects the bytes it fetched, which never happens, since decode is total (R116).
  Safe: the machine would stop where the hardware goes on. -/
  | undecodable
deriving DecidableEq, Repr

/-- Why an instruction is refused. -/
inductive Refusal where
  /-- Answered by exec for an instruction that has no meaning yet; no arm answers it.
  Safe: the machine stops where the hardware goes on. -/
  | notModelled (mnemonic : String)
deriving DecidableEq, Repr

/-- The three outcomes of a step or an instruction. -/
abbrev Result := Host.Outcome State Fault Refusal

/-- R56, R320: the machine right after reset. PC, IME and halted are the spec's; the other registers are the
recommended values (log 2), the IRQ lines are 0 (log 4), every address is plain (log 5) and unwritten (log 1), N and H are
held directly (log 12), and the parameters are the recommended ones (log 17). -/
def State.reset : State where
  a := Config.resetValues.a
  b := Config.resetValues.b
  c := Config.resetValues.c
  d := Config.resetValues.d
  e := Config.resetValues.e
  h := Config.resetValues.h
  l := Config.resetValues.l
  sp := Config.resetValues.sp
  pc := Config.resetPC
  fZ := Config.resetValues.fZ
  nh := .direct Config.resetValues.fN Config.resetValues.fH
  fC := Config.resetValues.fC
  ime := false
  halted := false
  irqPending := 0
  irqEnabled := 0
  mem := []
  busMap := []
  params := defaultParams
  cycles := 0
  trace := []
  oracle := 0

end Sys2Proof.Machine
end

