-- ==== Sys2Proof/Machine/Flags.lean ====
section
/-! DEFINITION. The flag encoding layer: reading N and H in both representations (R45), the packer and the unpacker
(R41, R42), writing flags (R47), the carry and half-carry detectors (R180, R200, R163), decimal adjust (R264) and the
condition predicates (R210). -/

namespace Sys2Proof.Machine

/-! ## The detectors -/

/-- What an 8-bit addition or subtraction gives: the truncated result, the carry (borrow) at bit 3/4 and at bit 7/8. -/
structure Arith where
  res : Byte
  half : Bool
  carry : Bool
deriving DecidableEq, Repr

/-- R180: Add8(a, b, c), over the integers, truncated at the end. -/
def add8 (a b : Byte) (cin : Bool) : Arith where
  res := BitVec.ofNat 8 (a.toNat + b.toNat + cin.toNat)
  half := decide (a.toNat % 16 + b.toNat % 16 + cin.toNat > 0xF)
  carry := decide (a.toNat + b.toNat + cin.toNat > 0xFF)

/-- R180: Sub8(a, b, c), over the integers, truncated at the end. -/
def sub8 (a b : Byte) (cin : Bool) : Arith where
  res := BitVec.ofInt 8 ((a.toNat : Int) - b.toNat - cin.toNat)
  half := decide (a.toNat % 16 < b.toNat % 16 + cin.toNat)
  carry := decide (a.toNat < b.toNat + cin.toNat)

/-- R200: the carry out of bit 11 of a 16-bit addition. -/
def half16 (a b : Word) : Bool := decide (a.toNat % 4096 + b.toNat % 4096 > 0x0FFF)

/-- R200: the carry out of bit 15 of a 16-bit addition. -/
def carry16 (a b : Word) : Bool := decide (a.toNat + b.toNat > 0xFFFF)

/-- R163, R201: the carry out of bit 3 of the low byte of SP plus the displacement byte, taken unsigned. -/
def halfSPe (sp : Word) (e : Byte) : Bool := decide (sp.toNat % 16 + e.toNat % 16 > 0xF)

/-- R163, R201: the carry out of bit 7 of the low byte of SP plus the displacement byte, taken unsigned. -/
def carrySPe (sp : Word) (e : Byte) : Bool := decide (sp.toNat % 256 + e.toNat > 0xFF)

/-! ## N and H in both representations -/

/-- R45: fN. -/
def NHFlags.n : NHFlags → Bool
  | .direct n _ => n
  | .lazyNH d => d.nhSub

/-- R45: fH. -/
def NHFlags.h : NHFlags → Bool
  | .direct _ h => h
  | .lazyNH d =>
    if d.nhSub then decide (d.nhA.toNat % 16 < d.nhB.toNat % 16 + d.nhCin.toNat)
    else decide (d.nhA.toNat % 16 + d.nhB.toNat % 16 + d.nhCin.toNat > 0xF)

/-- R47: the deferred fields after an addition of a, b and the carry-in. -/
def Deferred.ofAdd (a b : Byte) (cin : Bool) : Deferred where
  nhA := a
  nhB := b
  nhCin := cin
  nhRes := (add8 a b cin).res
  nhSub := false

/-- R47: the deferred fields after a subtraction of b and the borrow-in from a. -/
def Deferred.ofSub (a b : Byte) (cin : Bool) : Deferred where
  nhA := a
  nhB := b
  nhCin := cin
  nhRes := (sub8 a b cin).res
  nhSub := true

/-- R47: the deferred fields after ADD HL,rr: the high bytes and the carry out of the low bytes. -/
def Deferred.ofAdd16 (a b : Word) : Deferred :=
  Deferred.ofAdd (hi a) (hi b) (add8 (lo a) (lo b) false).carry

/-- R47: the canonical row for a required pair (fN, fH). -/
def Deferred.canonical (n h : Bool) : Deferred :=
  match n, h with
  | false, false => { nhSub := false, nhA := 0x00, nhB := 0x00, nhCin := false, nhRes := 0x00 }
  | false, true => { nhSub := false, nhA := 0x0F, nhB := 0x01, nhCin := false, nhRes := 0x10 }
  | true, false => { nhSub := true, nhA := 0x00, nhB := 0x00, nhCin := false, nhRes := 0x00 }
  | true, true => { nhSub := true, nhA := 0x00, nhB := 0x01, nhCin := false, nhRes := 0xFF }

/-- R46, R47: an instruction that writes N and H: the bits under direct, the deferred fields under lazyNH. -/
def NHFlags.write (n h : Bool) (d : Deferred) : NHFlags → NHFlags
  | .direct _ _ => .direct n h
  | .lazyNH _ => .lazyNH d

/-- The flag fN (R36, R45). -/
def State.fN (s : State) : Bool := s.nh.n

/-- The flag fH (R36, R45). -/
def State.fH (s : State) : Bool := s.nh.h

/-! ## Writing flags -/

/-- Writes the four flags; d is what the deferred representation stores for N and H. -/
def State.setFlags (z n h c : Bool) (d : Deferred) (s : State) : State :=
  { s with fZ := z, nh := s.nh.write n h d, fC := c }

/-- Writes the four flags with N and H forced or copied, not detected (R47's canonical rows). -/
def State.setConstFlags (z n h c : Bool) (s : State) : State :=
  s.setFlags z n h c (Deferred.canonical n h)

/-! ## Packing -/

/-- R41: PackFlags(), the byte F. -/
def State.packFlags (s : State) : Byte :=
  BitVec.ofNat 8 (s.fZ.toNat * 0x80 + s.fN.toNat * 0x40 + s.fH.toNat * 0x20 + s.fC.toNat * 0x10)

/-- R42: UnpackFlags(v). -/
def State.unpackFlags (v : Byte) (s : State) : State :=
  s.setConstFlags (v.getLsbD 7) (v.getLsbD 6) (v.getLsbD 5) (v.getLsbD 4)

/-! ## Decimal adjust and conditions -/

/-- R264: DecimalAdjust(n, h, c, a), the adjusted accumulator and the new carry. -/
def decimalAdjust (n h c : Bool) (a : Byte) : Byte × Bool :=
  if n then
    let t1 := if h then a - 0x06 else a
    let t2 := if c then t1 - 0x60 else t1
    (t2, c)
  else
    let t1 := if h || decide (a.toNat % 16 > 9) then a.toNat + 0x06 else a.toNat
    let t2 := if c || decide (t1 > 0x9F) then t1 + 0x60 else t1
    (BitVec.ofNat 8 t2, c || decide (t2 > 0xFF))

/-- R210: Cond(cc). -/
def State.cond : Cond → State → Bool
  | .nz, s => !s.fZ
  | .z, s => s.fZ
  | .nc, s => !s.fC
  | .c, s => s.fC

end Sys2Proof.Machine
end

