-- ==== Sys2Proof/WellFormed.lean ====
section
/-! DEFINITION. Which terms of Instr are complete instructions. Every operand has the exact width of its field (R105),
so the one check left is that of rule R242. -/

namespace Sys2Proof

/-- R242: the prefix byte alone is not an instruction: its second byte is missing. Every other term is one. -/
def Instr.wf : Instr → Bool
  | .cbPrefix => false
  | _ => true

end Sys2Proof
end

