-- ==== Sys2Proof/Decode.lean ====
section
/-! DEFINITION. The decoder, from the bit patterns of rules R111 and R115, and after it the encoder, from the opcode
numbers of rules R110 and R118. -/

namespace Sys2Proof

/-- Why a byte string is no instruction: only because it ends too early (R116). -/
inductive DecodeError where
  /-- There is no byte at all. -/
  | empty
  /-- An operand byte is missing. -/
  | truncated
deriving DecidableEq, Repr

/-- An instruction and the bytes after it, or the reason there is none. -/
abbrev Decoded := Except DecodeError (Instr × List Byte)

/-! ## The members of a bit pattern -/

/-- R130: LD r,r'; the first register is the destination. -/
def Group.ldRegReg : Reg8 → Reg8 → Instr
  | .b, .b => .ld_B_B
  | .b, .c => .ld_B_C
  | .b, .d => .ld_B_D
  | .b, .e => .ld_B_E
  | .b, .h => .ld_B_H
  | .b, .l => .ld_B_L
  | .b, .a => .ld_B_A
  | .c, .b => .ld_C_B
  | .c, .c => .ld_C_C
  | .c, .d => .ld_C_D
  | .c, .e => .ld_C_E
  | .c, .h => .ld_C_H
  | .c, .l => .ld_C_L
  | .c, .a => .ld_C_A
  | .d, .b => .ld_D_B
  | .d, .c => .ld_D_C
  | .d, .d => .ld_D_D
  | .d, .e => .ld_D_E
  | .d, .h => .ld_D_H
  | .d, .l => .ld_D_L
  | .d, .a => .ld_D_A
  | .e, .b => .ld_E_B
  | .e, .c => .ld_E_C
  | .e, .d => .ld_E_D
  | .e, .e => .ld_E_E
  | .e, .h => .ld_E_H
  | .e, .l => .ld_E_L
  | .e, .a => .ld_E_A
  | .h, .b => .ld_H_B
  | .h, .c => .ld_H_C
  | .h, .d => .ld_H_D
  | .h, .e => .ld_H_E
  | .h, .h => .ld_H_H
  | .h, .l => .ld_H_L
  | .h, .a => .ld_H_A
  | .l, .b => .ld_L_B
  | .l, .c => .ld_L_C
  | .l, .d => .ld_L_D
  | .l, .e => .ld_L_E
  | .l, .h => .ld_L_H
  | .l, .l => .ld_L_L
  | .l, .a => .ld_L_A
  | .a, .b => .ld_A_B
  | .a, .c => .ld_A_C
  | .a, .d => .ld_A_D
  | .a, .e => .ld_A_E
  | .a, .h => .ld_A_H
  | .a, .l => .ld_A_L
  | .a, .a => .ld_A_A

/-- R131: LD r,(HL). -/
def Group.ldRegMem : Reg8 → Instr
  | .b => .ld_B_mHL
  | .c => .ld_C_mHL
  | .d => .ld_D_mHL
  | .e => .ld_E_mHL
  | .h => .ld_H_mHL
  | .l => .ld_L_mHL
  | .a => .ld_A_mHL

/-- R132: LD (HL),r. -/
def Group.ldMemReg : Reg8 → Instr
  | .b => .ld_mHL_B
  | .c => .ld_mHL_C
  | .d => .ld_mHL_D
  | .e => .ld_mHL_E
  | .h => .ld_mHL_H
  | .l => .ld_mHL_L
  | .a => .ld_mHL_A

/-- R133, R134: LD r,d8 and LD (HL),d8. -/
def Group.ldImm : Operand8 → Byte → Instr
  | .reg .b, d8 => .ld_B_d8 d8
  | .reg .c, d8 => .ld_C_d8 d8
  | .reg .d, d8 => .ld_D_d8 d8
  | .reg .e, d8 => .ld_E_d8 d8
  | .reg .h, d8 => .ld_H_d8 d8
  | .reg .l, d8 => .ld_L_d8 d8
  | .atHL, d8 => .ld_mHL_d8 d8
  | .reg .a, d8 => .ld_A_d8 d8

/-- R172, R174: INC r and INC (HL). -/
def Group.inc : Operand8 → Instr
  | .reg .b => .inc_B
  | .reg .c => .inc_C
  | .reg .d => .inc_D
  | .reg .e => .inc_E
  | .reg .h => .inc_H
  | .reg .l => .inc_L
  | .atHL => .inc_mHL
  | .reg .a => .inc_A

/-- R173, R175: DEC r and DEC (HL). -/
def Group.dec : Operand8 → Instr
  | .reg .b => .dec_B
  | .reg .c => .dec_C
  | .reg .d => .dec_D
  | .reg .e => .dec_E
  | .reg .h => .dec_H
  | .reg .l => .dec_L
  | .atHL => .dec_mHL
  | .reg .a => .dec_A

/-- R160: LD rr,d16. -/
def Group.ldPair : Pair → Word → Instr
  | .bc, d16 => .ld_BC_d16 d16
  | .de, d16 => .ld_DE_d16 d16
  | .hl, d16 => .ld_HL_d16 d16
  | .sp, d16 => .ld_SP_d16 d16

/-- R170: INC rr. -/
def Group.incPair : Pair → Instr
  | .bc => .inc_BC
  | .de => .inc_DE
  | .hl => .inc_HL
  | .sp => .inc_SP

/-- R171: DEC rr. -/
def Group.decPair : Pair → Instr
  | .bc => .dec_BC
  | .de => .dec_DE
  | .hl => .dec_HL
  | .sp => .dec_SP

/-- R200: ADD HL,rr. -/
def Group.addHL : Pair → Instr
  | .bc => .add_HL_BC
  | .de => .add_HL_DE
  | .hl => .add_HL_HL
  | .sp => .add_HL_SP

/-- R181 to R188, register and memory forms. -/
def Group.alu : AluOp → Operand8 → Instr
  | .add, .reg .b => .add_A_B
  | .add, .reg .c => .add_A_C
  | .add, .reg .d => .add_A_D
  | .add, .reg .e => .add_A_E
  | .add, .reg .h => .add_A_H
  | .add, .reg .l => .add_A_L
  | .add, .atHL => .add_A_mHL
  | .add, .reg .a => .add_A_A
  | .adc, .reg .b => .adc_A_B
  | .adc, .reg .c => .adc_A_C
  | .adc, .reg .d => .adc_A_D
  | .adc, .reg .e => .adc_A_E
  | .adc, .reg .h => .adc_A_H
  | .adc, .reg .l => .adc_A_L
  | .adc, .atHL => .adc_A_mHL
  | .adc, .reg .a => .adc_A_A
  | .sub, .reg .b => .sub_B
  | .sub, .reg .c => .sub_C
  | .sub, .reg .d => .sub_D
  | .sub, .reg .e => .sub_E
  | .sub, .reg .h => .sub_H
  | .sub, .reg .l => .sub_L
  | .sub, .atHL => .sub_mHL
  | .sub, .reg .a => .sub_A
  | .sbc, .reg .b => .sbc_A_B
  | .sbc, .reg .c => .sbc_A_C
  | .sbc, .reg .d => .sbc_A_D
  | .sbc, .reg .e => .sbc_A_E
  | .sbc, .reg .h => .sbc_A_H
  | .sbc, .reg .l => .sbc_A_L
  | .sbc, .atHL => .sbc_A_mHL
  | .sbc, .reg .a => .sbc_A_A
  | .and, .reg .b => .and_B
  | .and, .reg .c => .and_C
  | .and, .reg .d => .and_D
  | .and, .reg .e => .and_E
  | .and, .reg .h => .and_H
  | .and, .reg .l => .and_L
  | .and, .atHL => .and_mHL
  | .and, .reg .a => .and_A
  | .xor, .reg .b => .xor_B
  | .xor, .reg .c => .xor_C
  | .xor, .reg .d => .xor_D
  | .xor, .reg .e => .xor_E
  | .xor, .reg .h => .xor_H
  | .xor, .reg .l => .xor_L
  | .xor, .atHL => .xor_mHL
  | .xor, .reg .a => .xor_A
  | .or, .reg .b => .or_B
  | .or, .reg .c => .or_C
  | .or, .reg .d => .or_D
  | .or, .reg .e => .or_E
  | .or, .reg .h => .or_H
  | .or, .reg .l => .or_L
  | .or, .atHL => .or_mHL
  | .or, .reg .a => .or_A
  | .cp, .reg .b => .cp_B
  | .cp, .reg .c => .cp_C
  | .cp, .reg .d => .cp_D
  | .cp, .reg .e => .cp_E
  | .cp, .reg .h => .cp_H
  | .cp, .reg .l => .cp_L
  | .cp, .atHL => .cp_mHL
  | .cp, .reg .a => .cp_A

/-- R181 to R188, immediate forms. -/
def Group.aluImm : AluOp → Byte → Instr
  | .add, d8 => .add_A_d8 d8
  | .adc, d8 => .adc_A_d8 d8
  | .sub, d8 => .sub_d8 d8
  | .sbc, d8 => .sbc_A_d8 d8
  | .and, d8 => .and_d8 d8
  | .xor, d8 => .xor_d8 d8
  | .or, d8 => .or_d8 d8
  | .cp, d8 => .cp_d8 d8

/-- R212: JR cc,e. -/
def Group.jrCond : Cond → Byte → Instr
  | .nz, e => .jr_NZ_e e
  | .z, e => .jr_Z_e e
  | .nc, e => .jr_NC_e e
  | .c, e => .jr_C_e e

/-- R214: JP cc,a16. -/
def Group.jpCond : Cond → Word → Instr
  | .nz, a16 => .jp_NZ_a16 a16
  | .z, a16 => .jp_Z_a16 a16
  | .nc, a16 => .jp_NC_a16 a16
  | .c, a16 => .jp_C_a16 a16

/-- R217: CALL cc,a16. -/
def Group.callCond : Cond → Word → Instr
  | .nz, a16 => .call_NZ_a16 a16
  | .z, a16 => .call_Z_a16 a16
  | .nc, a16 => .call_NC_a16 a16
  | .c, a16 => .call_C_a16 a16

/-- R219: RET cc. -/
def Group.retCond : Cond → Instr
  | .nz => .ret_NZ
  | .z => .ret_Z
  | .nc => .ret_NC
  | .c => .ret_C

/-- R232, R234: PUSH rr and PUSH AF. -/
def Group.push : StackPair → Instr
  | .bc => .push_BC
  | .de => .push_DE
  | .hl => .push_HL
  | .af => .push_AF

/-- R233, R235: POP rr and POP AF. -/
def Group.pop : StackPair → Instr
  | .bc => .pop_BC
  | .de => .pop_DE
  | .hl => .pop_HL
  | .af => .pop_AF

/-- R222: RST t with t = 8 * y. -/
def Group.rst (y : Fin 8) : Instr :=
  match y.val with
  | 0 => .rst_00
  | 1 => .rst_08
  | 2 => .rst_10
  | 3 => .rst_18
  | 4 => .rst_20
  | 5 => .rst_28
  | 6 => .rst_30
  | _ => .rst_38

/-- R243 to R250: rot[y] of the extended map. -/
def Group.rotate : RotOp → Operand8 → Instr
  | .rlc, .reg .b => .rlc_B
  | .rlc, .reg .c => .rlc_C
  | .rlc, .reg .d => .rlc_D
  | .rlc, .reg .e => .rlc_E
  | .rlc, .reg .h => .rlc_H
  | .rlc, .reg .l => .rlc_L
  | .rlc, .atHL => .rlc_mHL
  | .rlc, .reg .a => .rlc_A
  | .rrc, .reg .b => .rrc_B
  | .rrc, .reg .c => .rrc_C
  | .rrc, .reg .d => .rrc_D
  | .rrc, .reg .e => .rrc_E
  | .rrc, .reg .h => .rrc_H
  | .rrc, .reg .l => .rrc_L
  | .rrc, .atHL => .rrc_mHL
  | .rrc, .reg .a => .rrc_A
  | .rl, .reg .b => .rl_B
  | .rl, .reg .c => .rl_C
  | .rl, .reg .d => .rl_D
  | .rl, .reg .e => .rl_E
  | .rl, .reg .h => .rl_H
  | .rl, .reg .l => .rl_L
  | .rl, .atHL => .rl_mHL
  | .rl, .reg .a => .rl_A
  | .rr, .reg .b => .rr_B
  | .rr, .reg .c => .rr_C
  | .rr, .reg .d => .rr_D
  | .rr, .reg .e => .rr_E
  | .rr, .reg .h => .rr_H
  | .rr, .reg .l => .rr_L
  | .rr, .atHL => .rr_mHL
  | .rr, .reg .a => .rr_A
  | .sla, .reg .b => .sla_B
  | .sla, .reg .c => .sla_C
  | .sla, .reg .d => .sla_D
  | .sla, .reg .e => .sla_E
  | .sla, .reg .h => .sla_H
  | .sla, .reg .l => .sla_L
  | .sla, .atHL => .sla_mHL
  | .sla, .reg .a => .sla_A
  | .sra, .reg .b => .sra_B
  | .sra, .reg .c => .sra_C
  | .sra, .reg .d => .sra_D
  | .sra, .reg .e => .sra_E
  | .sra, .reg .h => .sra_H
  | .sra, .reg .l => .sra_L
  | .sra, .atHL => .sra_mHL
  | .sra, .reg .a => .sra_A
  | .swap, .reg .b => .swap_B
  | .swap, .reg .c => .swap_C
  | .swap, .reg .d => .swap_D
  | .swap, .reg .e => .swap_E
  | .swap, .reg .h => .swap_H
  | .swap, .reg .l => .swap_L
  | .swap, .atHL => .swap_mHL
  | .swap, .reg .a => .swap_A
  | .srl, .reg .b => .srl_B
  | .srl, .reg .c => .srl_C
  | .srl, .reg .d => .srl_D
  | .srl, .reg .e => .srl_E
  | .srl, .reg .h => .srl_H
  | .srl, .reg .l => .srl_L
  | .srl, .atHL => .srl_mHL
  | .srl, .reg .a => .srl_A

/-- R251: BIT 0,s. -/
def Group.bit0 : Operand8 → Instr
  | .reg .b => .bit_0_B
  | .reg .c => .bit_0_C
  | .reg .d => .bit_0_D
  | .reg .e => .bit_0_E
  | .reg .h => .bit_0_H
  | .reg .l => .bit_0_L
  | .atHL => .bit_0_mHL
  | .reg .a => .bit_0_A

/-- R251: BIT 1,s. -/
def Group.bit1 : Operand8 → Instr
  | .reg .b => .bit_1_B
  | .reg .c => .bit_1_C
  | .reg .d => .bit_1_D
  | .reg .e => .bit_1_E
  | .reg .h => .bit_1_H
  | .reg .l => .bit_1_L
  | .atHL => .bit_1_mHL
  | .reg .a => .bit_1_A

/-- R251: BIT 2,s. -/
def Group.bit2 : Operand8 → Instr
  | .reg .b => .bit_2_B
  | .reg .c => .bit_2_C
  | .reg .d => .bit_2_D
  | .reg .e => .bit_2_E
  | .reg .h => .bit_2_H
  | .reg .l => .bit_2_L
  | .atHL => .bit_2_mHL
  | .reg .a => .bit_2_A

/-- R251: BIT 3,s. -/
def Group.bit3 : Operand8 → Instr
  | .reg .b => .bit_3_B
  | .reg .c => .bit_3_C
  | .reg .d => .bit_3_D
  | .reg .e => .bit_3_E
  | .reg .h => .bit_3_H
  | .reg .l => .bit_3_L
  | .atHL => .bit_3_mHL
  | .reg .a => .bit_3_A

/-- R251: BIT 4,s. -/
def Group.bit4 : Operand8 → Instr
  | .reg .b => .bit_4_B
  | .reg .c => .bit_4_C
  | .reg .d => .bit_4_D
  | .reg .e => .bit_4_E
  | .reg .h => .bit_4_H
  | .reg .l => .bit_4_L
  | .atHL => .bit_4_mHL
  | .reg .a => .bit_4_A

/-- R251: BIT 5,s. -/
def Group.bit5 : Operand8 → Instr
  | .reg .b => .bit_5_B
  | .reg .c => .bit_5_C
  | .reg .d => .bit_5_D
  | .reg .e => .bit_5_E
  | .reg .h => .bit_5_H
  | .reg .l => .bit_5_L
  | .atHL => .bit_5_mHL
  | .reg .a => .bit_5_A

/-- R251: BIT 6,s. -/
def Group.bit6 : Operand8 → Instr
  | .reg .b => .bit_6_B
  | .reg .c => .bit_6_C
  | .reg .d => .bit_6_D
  | .reg .e => .bit_6_E
  | .reg .h => .bit_6_H
  | .reg .l => .bit_6_L
  | .atHL => .bit_6_mHL
  | .reg .a => .bit_6_A

/-- R251: BIT 7,s. -/
def Group.bit7 : Operand8 → Instr
  | .reg .b => .bit_7_B
  | .reg .c => .bit_7_C
  | .reg .d => .bit_7_D
  | .reg .e => .bit_7_E
  | .reg .h => .bit_7_H
  | .reg .l => .bit_7_L
  | .atHL => .bit_7_mHL
  | .reg .a => .bit_7_A

/-- R251: BIT b,s. -/
def Group.bit (b : Fin 8) (s : Operand8) : Instr :=
  match b.val with
  | 0 => Group.bit0 s
  | 1 => Group.bit1 s
  | 2 => Group.bit2 s
  | 3 => Group.bit3 s
  | 4 => Group.bit4 s
  | 5 => Group.bit5 s
  | 6 => Group.bit6 s
  | _ => Group.bit7 s

/-- R252: RES 0,s. -/
def Group.res0 : Operand8 → Instr
  | .reg .b => .res_0_B
  | .reg .c => .res_0_C
  | .reg .d => .res_0_D
  | .reg .e => .res_0_E
  | .reg .h => .res_0_H
  | .reg .l => .res_0_L
  | .atHL => .res_0_mHL
  | .reg .a => .res_0_A

/-- R252: RES 1,s. -/
def Group.res1 : Operand8 → Instr
  | .reg .b => .res_1_B
  | .reg .c => .res_1_C
  | .reg .d => .res_1_D
  | .reg .e => .res_1_E
  | .reg .h => .res_1_H
  | .reg .l => .res_1_L
  | .atHL => .res_1_mHL
  | .reg .a => .res_1_A

/-- R252: RES 2,s. -/
def Group.res2 : Operand8 → Instr
  | .reg .b => .res_2_B
  | .reg .c => .res_2_C
  | .reg .d => .res_2_D
  | .reg .e => .res_2_E
  | .reg .h => .res_2_H
  | .reg .l => .res_2_L
  | .atHL => .res_2_mHL
  | .reg .a => .res_2_A

/-- R252: RES 3,s. -/
def Group.res3 : Operand8 → Instr
  | .reg .b => .res_3_B
  | .reg .c => .res_3_C
  | .reg .d => .res_3_D
  | .reg .e => .res_3_E
  | .reg .h => .res_3_H
  | .reg .l => .res_3_L
  | .atHL => .res_3_mHL
  | .reg .a => .res_3_A

/-- R252: RES 4,s. -/
def Group.res4 : Operand8 → Instr
  | .reg .b => .res_4_B
  | .reg .c => .res_4_C
  | .reg .d => .res_4_D
  | .reg .e => .res_4_E
  | .reg .h => .res_4_H
  | .reg .l => .res_4_L
  | .atHL => .res_4_mHL
  | .reg .a => .res_4_A

/-- R252: RES 5,s. -/
def Group.res5 : Operand8 → Instr
  | .reg .b => .res_5_B
  | .reg .c => .res_5_C
  | .reg .d => .res_5_D
  | .reg .e => .res_5_E
  | .reg .h => .res_5_H
  | .reg .l => .res_5_L
  | .atHL => .res_5_mHL
  | .reg .a => .res_5_A

/-- R252: RES 6,s. -/
def Group.res6 : Operand8 → Instr
  | .reg .b => .res_6_B
  | .reg .c => .res_6_C
  | .reg .d => .res_6_D
  | .reg .e => .res_6_E
  | .reg .h => .res_6_H
  | .reg .l => .res_6_L
  | .atHL => .res_6_mHL
  | .reg .a => .res_6_A

/-- R252: RES 7,s. -/
def Group.res7 : Operand8 → Instr
  | .reg .b => .res_7_B
  | .reg .c => .res_7_C
  | .reg .d => .res_7_D
  | .reg .e => .res_7_E
  | .reg .h => .res_7_H
  | .reg .l => .res_7_L
  | .atHL => .res_7_mHL
  | .reg .a => .res_7_A

/-- R252: RES b,s. -/
def Group.res (b : Fin 8) (s : Operand8) : Instr :=
  match b.val with
  | 0 => Group.res0 s
  | 1 => Group.res1 s
  | 2 => Group.res2 s
  | 3 => Group.res3 s
  | 4 => Group.res4 s
  | 5 => Group.res5 s
  | 6 => Group.res6 s
  | _ => Group.res7 s

/-- R253: SET 0,s. -/
def Group.set0 : Operand8 → Instr
  | .reg .b => .set_0_B
  | .reg .c => .set_0_C
  | .reg .d => .set_0_D
  | .reg .e => .set_0_E
  | .reg .h => .set_0_H
  | .reg .l => .set_0_L
  | .atHL => .set_0_mHL
  | .reg .a => .set_0_A

/-- R253: SET 1,s. -/
def Group.set1 : Operand8 → Instr
  | .reg .b => .set_1_B
  | .reg .c => .set_1_C
  | .reg .d => .set_1_D
  | .reg .e => .set_1_E
  | .reg .h => .set_1_H
  | .reg .l => .set_1_L
  | .atHL => .set_1_mHL
  | .reg .a => .set_1_A

/-- R253: SET 2,s. -/
def Group.set2 : Operand8 → Instr
  | .reg .b => .set_2_B
  | .reg .c => .set_2_C
  | .reg .d => .set_2_D
  | .reg .e => .set_2_E
  | .reg .h => .set_2_H
  | .reg .l => .set_2_L
  | .atHL => .set_2_mHL
  | .reg .a => .set_2_A

/-- R253: SET 3,s. -/
def Group.set3 : Operand8 → Instr
  | .reg .b => .set_3_B
  | .reg .c => .set_3_C
  | .reg .d => .set_3_D
  | .reg .e => .set_3_E
  | .reg .h => .set_3_H
  | .reg .l => .set_3_L
  | .atHL => .set_3_mHL
  | .reg .a => .set_3_A

/-- R253: SET 4,s. -/
def Group.set4 : Operand8 → Instr
  | .reg .b => .set_4_B
  | .reg .c => .set_4_C
  | .reg .d => .set_4_D
  | .reg .e => .set_4_E
  | .reg .h => .set_4_H
  | .reg .l => .set_4_L
  | .atHL => .set_4_mHL
  | .reg .a => .set_4_A

/-- R253: SET 5,s. -/
def Group.set5 : Operand8 → Instr
  | .reg .b => .set_5_B
  | .reg .c => .set_5_C
  | .reg .d => .set_5_D
  | .reg .e => .set_5_E
  | .reg .h => .set_5_H
  | .reg .l => .set_5_L
  | .atHL => .set_5_mHL
  | .reg .a => .set_5_A

/-- R253: SET 6,s. -/
def Group.set6 : Operand8 → Instr
  | .reg .b => .set_6_B
  | .reg .c => .set_6_C
  | .reg .d => .set_6_D
  | .reg .e => .set_6_E
  | .reg .h => .set_6_H
  | .reg .l => .set_6_L
  | .atHL => .set_6_mHL
  | .reg .a => .set_6_A

/-- R253: SET 7,s. -/
def Group.set7 : Operand8 → Instr
  | .reg .b => .set_7_B
  | .reg .c => .set_7_C
  | .reg .d => .set_7_D
  | .reg .e => .set_7_E
  | .reg .h => .set_7_H
  | .reg .l => .set_7_L
  | .atHL => .set_7_mHL
  | .reg .a => .set_7_A

/-- R253: SET b,s. -/
def Group.set (b : Fin 8) (s : Operand8) : Instr :=
  match b.val with
  | 0 => Group.set0 s
  | 1 => Group.set1 s
  | 2 => Group.set2 s
  | 3 => Group.set3 s
  | 4 => Group.set4 s
  | 5 => Group.set5 s
  | 6 => Group.set6 s
  | _ => Group.set7 s

/-! ## The decoder -/

/-- R100: the length of an instruction is a function of its first byte alone. -/
def opcodeLength (op : Byte) : Nat :=
  if op ∈ [0x06, 0x0E, 0x16, 0x18, 0x1E, 0x20, 0x26, 0x28, 0x2E, 0x30, 0x36, 0x38, 0x3E, 0xC6, 0xCE, 0xD6, 0xDE, 0xE0,
      0xE6, 0xE8, 0xEE, 0xF0, 0xF6, 0xF8, 0xFE, 0xCB] then 2
  else if op ∈ [0x01, 0x08, 0x11, 0x21, 0x31, 0xC2, 0xC3, 0xC4, 0xCA, 0xCC, 0xCD, 0xD2, 0xD4, 0xDA, 0xDC, 0xEA, 0xFA] then 3
  else 1

/-- An instruction of no operand bytes. -/
def withNone (i : Instr) (rest : List Byte) : Decoded := .ok (i, rest)

/-- R105: an instruction of one operand byte (d8, a8 or e). -/
def withByte (f : Byte → Instr) : List Byte → Decoded
  | b :: rest => .ok (f b, rest)
  | [] => .error .truncated

/-- R105, R107: an instruction of two operand bytes (d16 or a16), low byte first. -/
def withWord (f : Word → Instr) : List Byte → Decoded
  | l :: h :: rest => .ok (f (join h l), rest)
  | _ => .error .truncated

/-- R111, the lines with x = 0. -/
def decodeX0 (y z p q : Nat) (rest : List Byte) : Decoded :=
  match z with
  | 0 =>
    match y with
    | 0 => withNone .nop rest
    | 1 => withWord .ld_mA16_SP rest
    | 2 => withNone .stop rest
    | 3 => withByte .jr_e rest
    | _ => withByte (Group.jrCond (Cond.ofSelector (y - 4))) rest
  | 1 =>
    match q with
    | 0 => withWord (Group.ldPair (Pair.ofSelector p)) rest
    | _ => withNone (Group.addHL (Pair.ofSelector p)) rest
  | 2 =>
    match q, p with
    | 0, 0 => withNone .ld_mBC_A rest
    | 0, 1 => withNone .ld_mDE_A rest
    | 0, 2 => withNone .ld_mHLI_A rest
    | 0, _ => withNone .ld_mHLD_A rest
    | _, 0 => withNone .ld_A_mBC rest
    | _, 1 => withNone .ld_A_mDE rest
    | _, 2 => withNone .ld_A_mHLI rest
    | _, _ => withNone .ld_A_mHLD rest
  | 3 =>
    match q with
    | 0 => withNone (Group.incPair (Pair.ofSelector p)) rest
    | _ => withNone (Group.decPair (Pair.ofSelector p)) rest
  | 4 => withNone (Group.inc (Operand8.ofSelector y)) rest
  | 5 => withNone (Group.dec (Operand8.ofSelector y)) rest
  | 6 => withByte (Group.ldImm (Operand8.ofSelector y)) rest
  | _ =>
    match y with
    | 0 => withNone .rlca rest
    | 1 => withNone .rrca rest
    | 2 => withNone .rla rest
    | 3 => withNone .rra rest
    | 4 => withNone .daa rest
    | 5 => withNone .cpl rest
    | 6 => withNone .scf rest
    | _ => withNone .ccf rest

/-- R111, the lines with x = 1: the loads, with HALT where LD (HL),(HL) would be (R113). -/
def decodeX1 (y z : Nat) (rest : List Byte) : Decoded :=
  match Operand8.ofSelector y, Operand8.ofSelector z with
  | .atHL, .atHL => withNone .halt rest
  | .atHL, .reg r => withNone (Group.ldMemReg r) rest
  | .reg dst, .atHL => withNone (Group.ldRegMem dst) rest
  | .reg dst, .reg r => withNone (Group.ldRegReg dst r) rest

/-- R111, the line with x = 2. -/
def decodeX2 (y z : Nat) (rest : List Byte) : Decoded :=
  withNone (Group.alu (AluOp.ofSelector y) (Operand8.ofSelector z)) rest

/-- R111, the lines with x = 3, but for the prefix (R114). -/
def decodeX3 (y z p q : Nat) (rest : List Byte) : Decoded :=
  match z with
  | 0 =>
    match y with
    | 4 => withByte .ldh_mA8_A rest
    | 5 => withByte .add_SP_e rest
    | 6 => withByte .ldh_A_mA8 rest
    | 7 => withByte .ld_HL_SPe rest
    | _ => withNone (Group.retCond (Cond.ofSelector y)) rest
  | 1 =>
    match q, p with
    | 0, _ => withNone (Group.pop (StackPair.ofSelector p)) rest
    | _, 0 => withNone .ret rest
    | _, 1 => withNone .reti rest
    | _, 2 => withNone .jp_mHL rest
    | _, _ => withNone .ld_SP_HL rest
  | 2 =>
    match y with
    | 4 => withNone .ld_mC_A rest
    | 5 => withWord .ld_mA16_A rest
    | 6 => withNone .ld_A_mC rest
    | 7 => withWord .ld_A_mA16 rest
    | _ => withWord (Group.jpCond (Cond.ofSelector y)) rest
  | 3 =>
    match y with
    | 0 => withWord .jp_a16 rest
    | 1 => withNone .cbPrefix rest
    | 2 => withNone .invalid_D3 rest
    | 3 => withNone .invalid_DB rest
    | 4 => withNone .invalid_E3 rest
    | 5 => withNone .invalid_EB rest
    | 6 => withNone .di rest
    | _ => withNone .ei rest
  | 4 =>
    match y with
    | 4 => withNone .invalid_E4 rest
    | 5 => withNone .invalid_EC rest
    | 6 => withNone .invalid_F4 rest
    | 7 => withNone .invalid_FC rest
    | _ => withWord (Group.callCond (Cond.ofSelector y)) rest
  | 5 =>
    match q, p with
    | 0, _ => withNone (Group.push (StackPair.ofSelector p)) rest
    | _, 0 => withWord .call_a16 rest
    | _, 1 => withNone .invalid_DD rest
    | _, 2 => withNone .invalid_ED rest
    | _, _ => withNone .invalid_FD rest
  | 6 => withByte (Group.aluImm (AluOp.ofSelector y)) rest
  | _ => withNone (Group.rst (Fin.ofNat 8 y)) rest

/-- R111: the primary map by bit pattern. -/
def decodePrimary (op : Byte) (rest : List Byte) : Decoded :=
  match fieldX op with
  | 0 => decodeX0 (fieldY op) (fieldZ op) (fieldP op) (fieldQ op) rest
  | 1 => decodeX1 (fieldY op) (fieldZ op) rest
  | 2 => decodeX2 (fieldY op) (fieldZ op) rest
  | _ => decodeX3 (fieldY op) (fieldZ op) (fieldP op) (fieldQ op) rest

/-- R115: the extended map by bit pattern; every code is assigned. -/
def decodeExtended (op2 : Byte) : Instr :=
  let operand := Operand8.ofSelector (fieldZ op2)
  match fieldX op2 with
  | 0 => Group.rotate (RotOp.ofSelector (fieldY op2)) operand
  | 1 => Group.bit (Fin.ofNat 8 (fieldY op2)) operand
  | 2 => Group.res (Fin.ofNat 8 (fieldY op2)) operand
  | _ => Group.set (Fin.ofNat 8 (fieldY op2)) operand

/-- R114, R117: the instruction at the head of a byte string, and the bytes after it. The prefix with a byte after it is
the extended instruction that byte selects; the prefix with nothing after it is the term cbPrefix (log 11). -/
def decode : List Byte → Decoded
  | [] => .error .empty
  | op :: rest =>
    if op = 0xCB then
      match rest with
      | [] => .ok (.cbPrefix, [])
      | op2 :: rest' => .ok (decodeExtended op2, rest')
    else decodePrimary op rest

/-! ## The encoder -/

/-- R110, R118: the bytes of an instruction, opcode first, 16-bit operands low byte first. -/
def encode : Instr → List Byte
  | .nop => [0x00]
  | .ld_BC_d16 d16 => [0x01, lo d16, hi d16]
  | .ld_mBC_A => [0x02]
  | .inc_BC => [0x03]
  | .inc_B => [0x04]
  | .dec_B => [0x05]
  | .ld_B_d8 d8 => [0x06, d8]
  | .rlca => [0x07]
  | .ld_mA16_SP a16 => [0x08, lo a16, hi a16]
  | .add_HL_BC => [0x09]
  | .ld_A_mBC => [0x0A]
  | .dec_BC => [0x0B]
  | .inc_C => [0x0C]
  | .dec_C => [0x0D]
  | .ld_C_d8 d8 => [0x0E, d8]
  | .rrca => [0x0F]
  | .stop => [0x10]
  | .ld_DE_d16 d16 => [0x11, lo d16, hi d16]
  | .ld_mDE_A => [0x12]
  | .inc_DE => [0x13]
  | .inc_D => [0x14]
  | .dec_D => [0x15]
  | .ld_D_d8 d8 => [0x16, d8]
  | .rla => [0x17]
  | .jr_e e => [0x18, e]
  | .add_HL_DE => [0x19]
  | .ld_A_mDE => [0x1A]
  | .dec_DE => [0x1B]
  | .inc_E => [0x1C]
  | .dec_E => [0x1D]
  | .ld_E_d8 d8 => [0x1E, d8]
  | .rra => [0x1F]
  | .jr_NZ_e e => [0x20, e]
  | .ld_HL_d16 d16 => [0x21, lo d16, hi d16]
  | .ld_mHLI_A => [0x22]
  | .inc_HL => [0x23]
  | .inc_H => [0x24]
  | .dec_H => [0x25]
  | .ld_H_d8 d8 => [0x26, d8]
  | .daa => [0x27]
  | .jr_Z_e e => [0x28, e]
  | .add_HL_HL => [0x29]
  | .ld_A_mHLI => [0x2A]
  | .dec_HL => [0x2B]
  | .inc_L => [0x2C]
  | .dec_L => [0x2D]
  | .ld_L_d8 d8 => [0x2E, d8]
  | .cpl => [0x2F]
  | .jr_NC_e e => [0x30, e]
  | .ld_SP_d16 d16 => [0x31, lo d16, hi d16]
  | .ld_mHLD_A => [0x32]
  | .inc_SP => [0x33]
  | .inc_mHL => [0x34]
  | .dec_mHL => [0x35]
  | .ld_mHL_d8 d8 => [0x36, d8]
  | .scf => [0x37]
  | .jr_C_e e => [0x38, e]
  | .add_HL_SP => [0x39]
  | .ld_A_mHLD => [0x3A]
  | .dec_SP => [0x3B]
  | .inc_A => [0x3C]
  | .dec_A => [0x3D]
  | .ld_A_d8 d8 => [0x3E, d8]
  | .ccf => [0x3F]
  | .ld_B_B => [0x40]
  | .ld_B_C => [0x41]
  | .ld_B_D => [0x42]
  | .ld_B_E => [0x43]
  | .ld_B_H => [0x44]
  | .ld_B_L => [0x45]
  | .ld_B_mHL => [0x46]
  | .ld_B_A => [0x47]
  | .ld_C_B => [0x48]
  | .ld_C_C => [0x49]
  | .ld_C_D => [0x4A]
  | .ld_C_E => [0x4B]
  | .ld_C_H => [0x4C]
  | .ld_C_L => [0x4D]
  | .ld_C_mHL => [0x4E]
  | .ld_C_A => [0x4F]
  | .ld_D_B => [0x50]
  | .ld_D_C => [0x51]
  | .ld_D_D => [0x52]
  | .ld_D_E => [0x53]
  | .ld_D_H => [0x54]
  | .ld_D_L => [0x55]
  | .ld_D_mHL => [0x56]
  | .ld_D_A => [0x57]
  | .ld_E_B => [0x58]
  | .ld_E_C => [0x59]
  | .ld_E_D => [0x5A]
  | .ld_E_E => [0x5B]
  | .ld_E_H => [0x5C]
  | .ld_E_L => [0x5D]
  | .ld_E_mHL => [0x5E]
  | .ld_E_A => [0x5F]
  | .ld_H_B => [0x60]
  | .ld_H_C => [0x61]
  | .ld_H_D => [0x62]
  | .ld_H_E => [0x63]
  | .ld_H_H => [0x64]
  | .ld_H_L => [0x65]
  | .ld_H_mHL => [0x66]
  | .ld_H_A => [0x67]
  | .ld_L_B => [0x68]
  | .ld_L_C => [0x69]
  | .ld_L_D => [0x6A]
  | .ld_L_E => [0x6B]
  | .ld_L_H => [0x6C]
  | .ld_L_L => [0x6D]
  | .ld_L_mHL => [0x6E]
  | .ld_L_A => [0x6F]
  | .ld_mHL_B => [0x70]
  | .ld_mHL_C => [0x71]
  | .ld_mHL_D => [0x72]
  | .ld_mHL_E => [0x73]
  | .ld_mHL_H => [0x74]
  | .ld_mHL_L => [0x75]
  | .halt => [0x76]
  | .ld_mHL_A => [0x77]
  | .ld_A_B => [0x78]
  | .ld_A_C => [0x79]
  | .ld_A_D => [0x7A]
  | .ld_A_E => [0x7B]
  | .ld_A_H => [0x7C]
  | .ld_A_L => [0x7D]
  | .ld_A_mHL => [0x7E]
  | .ld_A_A => [0x7F]
  | .add_A_B => [0x80]
  | .add_A_C => [0x81]
  | .add_A_D => [0x82]
  | .add_A_E => [0x83]
  | .add_A_H => [0x84]
  | .add_A_L => [0x85]
  | .add_A_mHL => [0x86]
  | .add_A_A => [0x87]
  | .adc_A_B => [0x88]
  | .adc_A_C => [0x89]
  | .adc_A_D => [0x8A]
  | .adc_A_E => [0x8B]
  | .adc_A_H => [0x8C]
  | .adc_A_L => [0x8D]
  | .adc_A_mHL => [0x8E]
  | .adc_A_A => [0x8F]
  | .sub_B => [0x90]
  | .sub_C => [0x91]
  | .sub_D => [0x92]
  | .sub_E => [0x93]
  | .sub_H => [0x94]
  | .sub_L => [0x95]
  | .sub_mHL => [0x96]
  | .sub_A => [0x97]
  | .sbc_A_B => [0x98]
  | .sbc_A_C => [0x99]
  | .sbc_A_D => [0x9A]
  | .sbc_A_E => [0x9B]
  | .sbc_A_H => [0x9C]
  | .sbc_A_L => [0x9D]
  | .sbc_A_mHL => [0x9E]
  | .sbc_A_A => [0x9F]
  | .and_B => [0xA0]
  | .and_C => [0xA1]
  | .and_D => [0xA2]
  | .and_E => [0xA3]
  | .and_H => [0xA4]
  | .and_L => [0xA5]
  | .and_mHL => [0xA6]
  | .and_A => [0xA7]
  | .xor_B => [0xA8]
  | .xor_C => [0xA9]
  | .xor_D => [0xAA]
  | .xor_E => [0xAB]
  | .xor_H => [0xAC]
  | .xor_L => [0xAD]
  | .xor_mHL => [0xAE]
  | .xor_A => [0xAF]
  | .or_B => [0xB0]
  | .or_C => [0xB1]
  | .or_D => [0xB2]
  | .or_E => [0xB3]
  | .or_H => [0xB4]
  | .or_L => [0xB5]
  | .or_mHL => [0xB6]
  | .or_A => [0xB7]
  | .cp_B => [0xB8]
  | .cp_C => [0xB9]
  | .cp_D => [0xBA]
  | .cp_E => [0xBB]
  | .cp_H => [0xBC]
  | .cp_L => [0xBD]
  | .cp_mHL => [0xBE]
  | .cp_A => [0xBF]
  | .ret_NZ => [0xC0]
  | .pop_BC => [0xC1]
  | .jp_NZ_a16 a16 => [0xC2, lo a16, hi a16]
  | .jp_a16 a16 => [0xC3, lo a16, hi a16]
  | .call_NZ_a16 a16 => [0xC4, lo a16, hi a16]
  | .push_BC => [0xC5]
  | .add_A_d8 d8 => [0xC6, d8]
  | .rst_00 => [0xC7]
  | .ret_Z => [0xC8]
  | .ret => [0xC9]
  | .jp_Z_a16 a16 => [0xCA, lo a16, hi a16]
  | .cbPrefix => [0xCB]
  | .call_Z_a16 a16 => [0xCC, lo a16, hi a16]
  | .call_a16 a16 => [0xCD, lo a16, hi a16]
  | .adc_A_d8 d8 => [0xCE, d8]
  | .rst_08 => [0xCF]
  | .ret_NC => [0xD0]
  | .pop_DE => [0xD1]
  | .jp_NC_a16 a16 => [0xD2, lo a16, hi a16]
  | .invalid_D3 => [0xD3]
  | .call_NC_a16 a16 => [0xD4, lo a16, hi a16]
  | .push_DE => [0xD5]
  | .sub_d8 d8 => [0xD6, d8]
  | .rst_10 => [0xD7]
  | .ret_C => [0xD8]
  | .reti => [0xD9]
  | .jp_C_a16 a16 => [0xDA, lo a16, hi a16]
  | .invalid_DB => [0xDB]
  | .call_C_a16 a16 => [0xDC, lo a16, hi a16]
  | .invalid_DD => [0xDD]
  | .sbc_A_d8 d8 => [0xDE, d8]
  | .rst_18 => [0xDF]
  | .ldh_mA8_A a8 => [0xE0, a8]
  | .pop_HL => [0xE1]
  | .ld_mC_A => [0xE2]
  | .invalid_E3 => [0xE3]
  | .invalid_E4 => [0xE4]
  | .push_HL => [0xE5]
  | .and_d8 d8 => [0xE6, d8]
  | .rst_20 => [0xE7]
  | .add_SP_e e => [0xE8, e]
  | .jp_mHL => [0xE9]
  | .ld_mA16_A a16 => [0xEA, lo a16, hi a16]
  | .invalid_EB => [0xEB]
  | .invalid_EC => [0xEC]
  | .invalid_ED => [0xED]
  | .xor_d8 d8 => [0xEE, d8]
  | .rst_28 => [0xEF]
  | .ldh_A_mA8 a8 => [0xF0, a8]
  | .pop_AF => [0xF1]
  | .ld_A_mC => [0xF2]
  | .di => [0xF3]
  | .invalid_F4 => [0xF4]
  | .push_AF => [0xF5]
  | .or_d8 d8 => [0xF6, d8]
  | .rst_30 => [0xF7]
  | .ld_HL_SPe e => [0xF8, e]
  | .ld_SP_HL => [0xF9]
  | .ld_A_mA16 a16 => [0xFA, lo a16, hi a16]
  | .ei => [0xFB]
  | .invalid_FC => [0xFC]
  | .invalid_FD => [0xFD]
  | .cp_d8 d8 => [0xFE, d8]
  | .rst_38 => [0xFF]
  | .rlc_B => [0xCB, 0x00]
  | .rlc_C => [0xCB, 0x01]
  | .rlc_D => [0xCB, 0x02]
  | .rlc_E => [0xCB, 0x03]
  | .rlc_H => [0xCB, 0x04]
  | .rlc_L => [0xCB, 0x05]
  | .rlc_mHL => [0xCB, 0x06]
  | .rlc_A => [0xCB, 0x07]
  | .rrc_B => [0xCB, 0x08]
  | .rrc_C => [0xCB, 0x09]
  | .rrc_D => [0xCB, 0x0A]
  | .rrc_E => [0xCB, 0x0B]
  | .rrc_H => [0xCB, 0x0C]
  | .rrc_L => [0xCB, 0x0D]
  | .rrc_mHL => [0xCB, 0x0E]
  | .rrc_A => [0xCB, 0x0F]
  | .rl_B => [0xCB, 0x10]
  | .rl_C => [0xCB, 0x11]
  | .rl_D => [0xCB, 0x12]
  | .rl_E => [0xCB, 0x13]
  | .rl_H => [0xCB, 0x14]
  | .rl_L => [0xCB, 0x15]
  | .rl_mHL => [0xCB, 0x16]
  | .rl_A => [0xCB, 0x17]
  | .rr_B => [0xCB, 0x18]
  | .rr_C => [0xCB, 0x19]
  | .rr_D => [0xCB, 0x1A]
  | .rr_E => [0xCB, 0x1B]
  | .rr_H => [0xCB, 0x1C]
  | .rr_L => [0xCB, 0x1D]
  | .rr_mHL => [0xCB, 0x1E]
  | .rr_A => [0xCB, 0x1F]
  | .sla_B => [0xCB, 0x20]
  | .sla_C => [0xCB, 0x21]
  | .sla_D => [0xCB, 0x22]
  | .sla_E => [0xCB, 0x23]
  | .sla_H => [0xCB, 0x24]
  | .sla_L => [0xCB, 0x25]
  | .sla_mHL => [0xCB, 0x26]
  | .sla_A => [0xCB, 0x27]
  | .sra_B => [0xCB, 0x28]
  | .sra_C => [0xCB, 0x29]
  | .sra_D => [0xCB, 0x2A]
  | .sra_E => [0xCB, 0x2B]
  | .sra_H => [0xCB, 0x2C]
  | .sra_L => [0xCB, 0x2D]
  | .sra_mHL => [0xCB, 0x2E]
  | .sra_A => [0xCB, 0x2F]
  | .swap_B => [0xCB, 0x30]
  | .swap_C => [0xCB, 0x31]
  | .swap_D => [0xCB, 0x32]
  | .swap_E => [0xCB, 0x33]
  | .swap_H => [0xCB, 0x34]
  | .swap_L => [0xCB, 0x35]
  | .swap_mHL => [0xCB, 0x36]
  | .swap_A => [0xCB, 0x37]
  | .srl_B => [0xCB, 0x38]
  | .srl_C => [0xCB, 0x39]
  | .srl_D => [0xCB, 0x3A]
  | .srl_E => [0xCB, 0x3B]
  | .srl_H => [0xCB, 0x3C]
  | .srl_L => [0xCB, 0x3D]
  | .srl_mHL => [0xCB, 0x3E]
  | .srl_A => [0xCB, 0x3F]
  | .bit_0_B => [0xCB, 0x40]
  | .bit_0_C => [0xCB, 0x41]
  | .bit_0_D => [0xCB, 0x42]
  | .bit_0_E => [0xCB, 0x43]
  | .bit_0_H => [0xCB, 0x44]
  | .bit_0_L => [0xCB, 0x45]
  | .bit_0_mHL => [0xCB, 0x46]
  | .bit_0_A => [0xCB, 0x47]
  | .bit_1_B => [0xCB, 0x48]
  | .bit_1_C => [0xCB, 0x49]
  | .bit_1_D => [0xCB, 0x4A]
  | .bit_1_E => [0xCB, 0x4B]
  | .bit_1_H => [0xCB, 0x4C]
  | .bit_1_L => [0xCB, 0x4D]
  | .bit_1_mHL => [0xCB, 0x4E]
  | .bit_1_A => [0xCB, 0x4F]
  | .bit_2_B => [0xCB, 0x50]
  | .bit_2_C => [0xCB, 0x51]
  | .bit_2_D => [0xCB, 0x52]
  | .bit_2_E => [0xCB, 0x53]
  | .bit_2_H => [0xCB, 0x54]
  | .bit_2_L => [0xCB, 0x55]
  | .bit_2_mHL => [0xCB, 0x56]
  | .bit_2_A => [0xCB, 0x57]
  | .bit_3_B => [0xCB, 0x58]
  | .bit_3_C => [0xCB, 0x59]
  | .bit_3_D => [0xCB, 0x5A]
  | .bit_3_E => [0xCB, 0x5B]
  | .bit_3_H => [0xCB, 0x5C]
  | .bit_3_L => [0xCB, 0x5D]
  | .bit_3_mHL => [0xCB, 0x5E]
  | .bit_3_A => [0xCB, 0x5F]
  | .bit_4_B => [0xCB, 0x60]
  | .bit_4_C => [0xCB, 0x61]
  | .bit_4_D => [0xCB, 0x62]
  | .bit_4_E => [0xCB, 0x63]
  | .bit_4_H => [0xCB, 0x64]
  | .bit_4_L => [0xCB, 0x65]
  | .bit_4_mHL => [0xCB, 0x66]
  | .bit_4_A => [0xCB, 0x67]
  | .bit_5_B => [0xCB, 0x68]
  | .bit_5_C => [0xCB, 0x69]
  | .bit_5_D => [0xCB, 0x6A]
  | .bit_5_E => [0xCB, 0x6B]
  | .bit_5_H => [0xCB, 0x6C]
  | .bit_5_L => [0xCB, 0x6D]
  | .bit_5_mHL => [0xCB, 0x6E]
  | .bit_5_A => [0xCB, 0x6F]
  | .bit_6_B => [0xCB, 0x70]
  | .bit_6_C => [0xCB, 0x71]
  | .bit_6_D => [0xCB, 0x72]
  | .bit_6_E => [0xCB, 0x73]
  | .bit_6_H => [0xCB, 0x74]
  | .bit_6_L => [0xCB, 0x75]
  | .bit_6_mHL => [0xCB, 0x76]
  | .bit_6_A => [0xCB, 0x77]
  | .bit_7_B => [0xCB, 0x78]
  | .bit_7_C => [0xCB, 0x79]
  | .bit_7_D => [0xCB, 0x7A]
  | .bit_7_E => [0xCB, 0x7B]
  | .bit_7_H => [0xCB, 0x7C]
  | .bit_7_L => [0xCB, 0x7D]
  | .bit_7_mHL => [0xCB, 0x7E]
  | .bit_7_A => [0xCB, 0x7F]
  | .res_0_B => [0xCB, 0x80]
  | .res_0_C => [0xCB, 0x81]
  | .res_0_D => [0xCB, 0x82]
  | .res_0_E => [0xCB, 0x83]
  | .res_0_H => [0xCB, 0x84]
  | .res_0_L => [0xCB, 0x85]
  | .res_0_mHL => [0xCB, 0x86]
  | .res_0_A => [0xCB, 0x87]
  | .res_1_B => [0xCB, 0x88]
  | .res_1_C => [0xCB, 0x89]
  | .res_1_D => [0xCB, 0x8A]
  | .res_1_E => [0xCB, 0x8B]
  | .res_1_H => [0xCB, 0x8C]
  | .res_1_L => [0xCB, 0x8D]
  | .res_1_mHL => [0xCB, 0x8E]
  | .res_1_A => [0xCB, 0x8F]
  | .res_2_B => [0xCB, 0x90]
  | .res_2_C => [0xCB, 0x91]
  | .res_2_D => [0xCB, 0x92]
  | .res_2_E => [0xCB, 0x93]
  | .res_2_H => [0xCB, 0x94]
  | .res_2_L => [0xCB, 0x95]
  | .res_2_mHL => [0xCB, 0x96]
  | .res_2_A => [0xCB, 0x97]
  | .res_3_B => [0xCB, 0x98]
  | .res_3_C => [0xCB, 0x99]
  | .res_3_D => [0xCB, 0x9A]
  | .res_3_E => [0xCB, 0x9B]
  | .res_3_H => [0xCB, 0x9C]
  | .res_3_L => [0xCB, 0x9D]
  | .res_3_mHL => [0xCB, 0x9E]
  | .res_3_A => [0xCB, 0x9F]
  | .res_4_B => [0xCB, 0xA0]
  | .res_4_C => [0xCB, 0xA1]
  | .res_4_D => [0xCB, 0xA2]
  | .res_4_E => [0xCB, 0xA3]
  | .res_4_H => [0xCB, 0xA4]
  | .res_4_L => [0xCB, 0xA5]
  | .res_4_mHL => [0xCB, 0xA6]
  | .res_4_A => [0xCB, 0xA7]
  | .res_5_B => [0xCB, 0xA8]
  | .res_5_C => [0xCB, 0xA9]
  | .res_5_D => [0xCB, 0xAA]
  | .res_5_E => [0xCB, 0xAB]
  | .res_5_H => [0xCB, 0xAC]
  | .res_5_L => [0xCB, 0xAD]
  | .res_5_mHL => [0xCB, 0xAE]
  | .res_5_A => [0xCB, 0xAF]
  | .res_6_B => [0xCB, 0xB0]
  | .res_6_C => [0xCB, 0xB1]
  | .res_6_D => [0xCB, 0xB2]
  | .res_6_E => [0xCB, 0xB3]
  | .res_6_H => [0xCB, 0xB4]
  | .res_6_L => [0xCB, 0xB5]
  | .res_6_mHL => [0xCB, 0xB6]
  | .res_6_A => [0xCB, 0xB7]
  | .res_7_B => [0xCB, 0xB8]
  | .res_7_C => [0xCB, 0xB9]
  | .res_7_D => [0xCB, 0xBA]
  | .res_7_E => [0xCB, 0xBB]
  | .res_7_H => [0xCB, 0xBC]
  | .res_7_L => [0xCB, 0xBD]
  | .res_7_mHL => [0xCB, 0xBE]
  | .res_7_A => [0xCB, 0xBF]
  | .set_0_B => [0xCB, 0xC0]
  | .set_0_C => [0xCB, 0xC1]
  | .set_0_D => [0xCB, 0xC2]
  | .set_0_E => [0xCB, 0xC3]
  | .set_0_H => [0xCB, 0xC4]
  | .set_0_L => [0xCB, 0xC5]
  | .set_0_mHL => [0xCB, 0xC6]
  | .set_0_A => [0xCB, 0xC7]
  | .set_1_B => [0xCB, 0xC8]
  | .set_1_C => [0xCB, 0xC9]
  | .set_1_D => [0xCB, 0xCA]
  | .set_1_E => [0xCB, 0xCB]
  | .set_1_H => [0xCB, 0xCC]
  | .set_1_L => [0xCB, 0xCD]
  | .set_1_mHL => [0xCB, 0xCE]
  | .set_1_A => [0xCB, 0xCF]
  | .set_2_B => [0xCB, 0xD0]
  | .set_2_C => [0xCB, 0xD1]
  | .set_2_D => [0xCB, 0xD2]
  | .set_2_E => [0xCB, 0xD3]
  | .set_2_H => [0xCB, 0xD4]
  | .set_2_L => [0xCB, 0xD5]
  | .set_2_mHL => [0xCB, 0xD6]
  | .set_2_A => [0xCB, 0xD7]
  | .set_3_B => [0xCB, 0xD8]
  | .set_3_C => [0xCB, 0xD9]
  | .set_3_D => [0xCB, 0xDA]
  | .set_3_E => [0xCB, 0xDB]
  | .set_3_H => [0xCB, 0xDC]
  | .set_3_L => [0xCB, 0xDD]
  | .set_3_mHL => [0xCB, 0xDE]
  | .set_3_A => [0xCB, 0xDF]
  | .set_4_B => [0xCB, 0xE0]
  | .set_4_C => [0xCB, 0xE1]
  | .set_4_D => [0xCB, 0xE2]
  | .set_4_E => [0xCB, 0xE3]
  | .set_4_H => [0xCB, 0xE4]
  | .set_4_L => [0xCB, 0xE5]
  | .set_4_mHL => [0xCB, 0xE6]
  | .set_4_A => [0xCB, 0xE7]
  | .set_5_B => [0xCB, 0xE8]
  | .set_5_C => [0xCB, 0xE9]
  | .set_5_D => [0xCB, 0xEA]
  | .set_5_E => [0xCB, 0xEB]
  | .set_5_H => [0xCB, 0xEC]
  | .set_5_L => [0xCB, 0xED]
  | .set_5_mHL => [0xCB, 0xEE]
  | .set_5_A => [0xCB, 0xEF]
  | .set_6_B => [0xCB, 0xF0]
  | .set_6_C => [0xCB, 0xF1]
  | .set_6_D => [0xCB, 0xF2]
  | .set_6_E => [0xCB, 0xF3]
  | .set_6_H => [0xCB, 0xF4]
  | .set_6_L => [0xCB, 0xF5]
  | .set_6_mHL => [0xCB, 0xF6]
  | .set_6_A => [0xCB, 0xF7]
  | .set_7_B => [0xCB, 0xF8]
  | .set_7_C => [0xCB, 0xF9]
  | .set_7_D => [0xCB, 0xFA]
  | .set_7_E => [0xCB, 0xFB]
  | .set_7_H => [0xCB, 0xFC]
  | .set_7_L => [0xCB, 0xFD]
  | .set_7_mHL => [0xCB, 0xFE]
  | .set_7_A => [0xCB, 0xFF]

/-! ## The opcode table's words -/

/-- R118, log 15: the bytes of a word of the opcode table. A one-byte row's word is its byte. The word of an extended
row has the prefix in bits 15..8 and the extended opcode in bits 7..0; a word that holds the prefix in bits 7..0 alone is
read the other way round. A longer word, which no row has, is read first byte in bits 7..0. -/
def tableBytes (nbits w : Nat) : List Byte :=
  if nbits = 16 then
    if w % 256 = 0xCB ∧ w / 256 % 256 ≠ 0xCB then [BitVec.ofNat 8 w, BitVec.ofNat 8 (w / 256)]
    else [BitVec.ofNat 8 (w / 256), BitVec.ofNat 8 w]
  else (List.range ((nbits + 7) / 8)).map fun k => BitVec.ofNat 8 (w / 256 ^ k)

/-- The instruction the decoder reads from a word of the opcode table, whose operand bytes, which the table gives no
bits, are zeros. -/
def decodeTableWord (nbits w : Nat) : Option Instr :=
  match decode (tableBytes nbits w) with
  | .ok (i, _) => some i
  | .error _ =>
    match decode (tableBytes nbits w ++ [0x00, 0x00]) with
    | .ok (i, _) => some i
    | .error _ => none

end Sys2Proof
end

