-- ==== Sys2Proof/Machine/Ops.lean ====
section
/-! DEFINITION. The named operations: memory as a canonical list, the two bus primitives (R74, R75), fetching (R106),
the stack (R230, R231), the cycle count (R298), and taking an interrupt with the return from it (R290 to R293, R221). -/

namespace Sys2Proof.Machine

/-! ## Memory as data -/

/-- The byte at an address; an address with no entry reads Config.unlistedByte. -/
def Memory.read : Memory → Nat → Byte
  | [], _ => Config.unlistedByte
  | (k, v) :: m, a => if k = a then v else Memory.read m a

/-- The memory with the byte v at address a, in canonical form when the memory is. -/
def Memory.write : Memory → Nat → Byte → Memory
  | [], a, v => if v = Config.unlistedByte then [] else [(a, v)]
  | (k, w) :: m, a, v =>
    if a < k then (if v = Config.unlistedByte then (k, w) :: m else (a, v) :: (k, w) :: m)
    else if a = k then (if v = Config.unlistedByte then m else (a, v) :: m)
    else (k, w) :: Memory.write m a v

/-- The canonical form: addresses strictly rising and inside the address space, no entry equal to what an unlisted
address reads as. -/
abbrev Memory.wf (m : Memory) : Prop :=
  (m.map Prod.fst).Pairwise (· < ·) ∧ ∀ c ∈ m, c.1 < 65536 ∧ c.2 ≠ Config.unlistedByte

/-- The memory after several bytes are written, one after another. -/
def Memory.writeAll (m : Memory) : List (Word × Byte) → Memory
  | [] => m
  | (a, v) :: rest => Memory.writeAll (Memory.write m a.toNat v) rest

/-- The byte memory holds at an address, whatever stands in front of it on the bus. -/
def State.byteAt (a : Word) (s : State) : Byte := Memory.read s.mem a.toNat

/-! ## The ports -/

/-- Records a port call of the step. -/
def State.log (ev : PortEvent) (s : State) : State := { s with trace := s.trace ++ [ev] }

/-- R11, R285: report_error(kind, detail); it changes nothing else. -/
def State.report (kind : ErrKind) (detail : Word) (s : State) : State := s.log (.report kind detail)

/-- R16, R298: n cycles more on the count of the step, which has 8 bits: the sum where it fits, otherwise a value the spec
does not state (log 22). -/
def addCount (count : Byte) (n : Nat) : Byte :=
  if count.toNat + n < 256 then BitVec.ofNat 8 (count.toNat + n) else Config.countPastByte (count.toNat + n)

/-- R298: adds n to the count the step returns. -/
def State.charge (n : Nat) (s : State) : State := { s with cycles := addCount s.cycles n }

/-- R330, R333: adds CYCLES[op], the cost of an instruction of the primary map. -/
def State.chargeBase (op : Byte) (s : State) : State := s.charge (baseCost s.params op)

/-- R330, R335: adds the cost of a conditional transfer, taken or not. -/
def State.chargeTransfer (op : Byte) (taken : Bool) (s : State) : State :=
  s.charge (if taken then baseCost s.params op + takenCost s.params op else baseCost s.params op)

/-- R330, R334: adds CYCLES_CB[op2], the cost of a whole prefixed instruction. -/
def State.chargeExtended (op2 : Byte) (s : State) : State := s.charge (extendedCost s.params op2)

/-- The kind of an address: that of the first region that holds it, plain where none does (R83). -/
def kindIn : List Region → Word → AddressKind
  | [], _ => .plain
  | r :: rs, a => if r.first ≤ a ∧ a ≤ r.last then r.kind else kindIn rs a

/-- What stands behind an address in this state. -/
def State.kindAt (a : Word) (s : State) : AddressKind := kindIn s.busMap a

/-- R306: what a device access leaves behind the bus: the interrupt lines as the platform drives them, the bytes of
memory and the kinds of addresses it changes as a side effect. -/
def State.deviceAccess (call : Config.DeviceCall) (s : State) : State :=
  { s with
    irqPending := (Config.deviceResponse s.oracle call).pending
    irqEnabled := (Config.deviceResponse s.oracle call).enabled
    mem := Memory.writeAll s.mem (Config.deviceResponse s.oracle call).stores
    busMap := (Config.deviceResponse s.oracle call).remaps ++ s.busMap
    oracle := s.oracle + 1 }

/-- The byte the next device access answers. -/
def State.deviceByte (call : Config.DeviceCall) (s : State) : Byte := (Config.deviceResponse s.oracle call).byte

/-- R74, R76: MemRead(addr, 1), the byte and the state after the access. -/
def memRead (a : Word) (s : State) : Byte × State :=
  match s.kindAt a with
  | .unmapped => (unmappedByte, s.report .invalidRead a)
  | .device => (s.deviceByte (.read a), (s.deviceAccess (.read a)).log (.read a (s.deviceByte (.read a))))
  | .plain => (s.byteAt a, s.log (.read a (s.byteAt a)))
  | .readOnly => (s.byteAt a, s.log (.read a (s.byteAt a)))

/-- R75, R77: MemWrite(addr, 1, v). -/
def memWrite (a : Word) (v : Byte) (s : State) : State :=
  match s.kindAt a with
  | .unmapped => s.report .invalidWrite a
  | .device => (s.deviceAccess (.write a v)).log (.write a v)
  | .plain => { s with mem := Memory.write s.mem a.toNat v }.log (.write a v)
  | .readOnly => s.log (.write a v)

/-- R74: MemRead(addr, 2), low address first. -/
def memRead16 (a : Word) (s : State) : Word × State :=
  let l := memRead a s
  let h := memRead (a + 1) l.2
  (join h.1 l.1, h.2)

/-- R75: MemWrite(addr, 2, v), low byte first at the lower address. -/
def memWrite16 (a : Word) (v : Word) (s : State) : State :=
  memWrite (a + 1) (hi v) (memWrite a (lo v) s)

/-! ## Fetching -/

/-- R106: Fetch8(). -/
def fetch8 (s : State) : Byte × State :=
  let r := memRead s.pc s
  (r.1, { r.2 with pc := r.2.pc + 1 })

/-- R106: n bytes, each fetched once, in increasing address order. -/
def fetchBytes : Nat → State → List Byte × State
  | 0, s => ([], s)
  | n + 1, s =>
    let b := fetch8 s
    let bs := fetchBytes n b.2
    (b.1 :: bs.1, bs.2)

/-- R107: Fetch16(), low byte first. -/
def fetch16 (s : State) : Word × State :=
  let l := fetch8 s
  let h := fetch8 l.2
  (join h.1 l.1, h.2)

/-- R106, R116: the bytes of the instruction at PC: the opcode, then as many more as it tells (R100); PC is past
them all (log 16). -/
def fetchInstruction (s : State) : List Byte × State :=
  let op := fetch8 s
  let rest := fetchBytes (opcodeLength op.1 - 1) op.2
  (op.1 :: rest.1, rest.2)

/-! ## The stack -/

/-- R230: Push16(v), high byte first, each byte at the SP decremented for it. -/
def push16 (v : Word) (s : State) : State :=
  let s1 := { s with sp := s.sp - 1 }
  let s2 := memWrite s1.sp (hi v) s1
  let s3 := { s2 with sp := s2.sp - 1 }
  memWrite s3.sp (lo v) s3

/-- R231: Pop16(), low byte first. -/
def pop16 (s : State) : Word × State :=
  let l := memRead s.sp s
  let s1 := { l.2 with sp := l.2.sp + 1 }
  let h := memRead s1.sp s1
  (join h.1 l.1, { h.2 with sp := h.2.sp + 1 })

/-! ## Interrupts -/

/-- R288: among the lines set in m, the one with the lowest number (line 4 if no lower one is set). -/
def lowestLine (m : BitVec 5) : Fin 5 :=
  if m.getLsbD 0 then 0 else if m.getLsbD 1 then 1 else if m.getLsbD 2 then 2
  else if m.getLsbD 3 then 3 else 4

/-- R13, R52: IrqClear(n), which clears request bit n and nothing else. -/
def State.clearRequest (n : Fin 5) (s : State) : State :=
  { s with irqPending := s.irqPending &&& ~~~(1#5 <<< n.val) }.log (.irqClear n)

/-- R290, R292: taking the interrupt of line n: IME is cleared, PC is pushed, control goes to the line's vector, its
request bit is cleared, and the entry cost is added. Nothing else is saved or changed. -/
def enterInterrupt (n : Fin 5) (s : State) : State :=
  let s1 := push16 s.pc { s with ime := false }
  let s2 := { s1 with pc := entryAddress s1.params n }
  (s2.clearRequest n).charge Config.irqEntryCycles.val

/-- R221, R296: the return from an interrupt: PC is popped and IME is set at once. -/
def returnFromInterrupt (s : State) : State :=
  let r := pop16 s
  { r.2 with pc := r.1, ime := true }

/-- R290: the lines that are both pending and enabled. -/
def State.requests (s : State) : BitVec 5 := s.irqPending &&& s.irqEnabled

/-- R290: ServiceInterrupt(), the check at the top of every step; R291 wake-up, R292 entry, R293 wake-up alone. -/
def serviceInterrupt (s : State) : State :=
  if (s.ime || s.halted) && s.requests != 0 then
    if s.ime then enterInterrupt (lowestLine s.requests) { s with halted := false }
    else { s with halted := false }
  else s

/-! ## The step's own parts -/

/-- R298, R285: at the top of a step the cycle count is 0 and no port call has been made (log 10). -/
def State.beginStep (s : State) : State := { s with cycles := 0, trace := [] }

/-- R271: a step while halted costs 4 and does nothing else. -/
def haltedStep (s : State) : State := s.charge 4

/-! ## Placing an instruction where the next step fetches it -/

/-- The core runs, and the check at the top of the next step takes no interrupt. -/
def State.readyToFetch (s : State) : State :=
  { s with
    halted := false
    irqPending := if s.ime then s.irqPending &&& ~~~s.irqEnabled else s.irqPending }

/-- A fetch reads memory at this address: a region of its own makes the address plain if it is a device or unmapped. -/
def State.makeFetchable (a : Word) (s : State) : State :=
  match s.kindAt a with
  | .plain => s
  | .readOnly => s
  | .device => { s with busMap := { first := a, last := a, kind := .plain } :: s.busMap }
  | .unmapped => { s with busMap := { first := a, last := a, kind := .plain } :: s.busMap }

/-- Bytes stored from an address on, the address wrapping (R90). -/
def State.storeBytes : List Byte → Word → State → State
  | [], _, s => s
  | v :: vs, a, s =>
    State.storeBytes vs (a + 1) { s.makeFetchable a with mem := Memory.write s.mem a.toNat v }

end Sys2Proof.Machine
end

