-- ==== Sys2Proof/Machine/Operands.lean ====
section
/-! DEFINITION. Operand access: registers and pairs by selector (R21, R32, R39), the register/memory operand
(R103, R241), and the PC-relative target (R108). -/

namespace Sys2Proof.Machine

/-- R21: x[i] for a register selector. -/
def State.reg : Reg8 → State → Byte
  | .b, s => s.b
  | .c, s => s.c
  | .d, s => s.d
  | .e, s => s.e
  | .h, s => s.h
  | .l, s => s.l
  | .a, s => s.a

/-- R21: x[i] <- v for a register selector. -/
def State.setReg (r : Reg8) (v : Byte) (s : State) : State :=
  match r with
  | .b => { s with b := v }
  | .c => { s with c := v }
  | .d => { s with d := v }
  | .e => { s with e := v }
  | .h => { s with h := v }
  | .l => { s with l := v }
  | .a => { s with a := v }

/-- R32: BC = B ++ C. -/
def State.bc (s : State) : Word := join s.b s.c

/-- R32: DE = D ++ E. -/
def State.de (s : State) : Word := join s.d s.e

/-- R32: HL = H ++ L. -/
def State.hl (s : State) : Word := join s.h s.l

/-- R39: AF = A ++ F. -/
def State.af (s : State) : Word := join s.a s.packFlags

/-- R21: BC <- v. -/
def State.setBC (v : Word) (s : State) : State := { s with b := hi v, c := lo v }

/-- R21: DE <- v. -/
def State.setDE (v : Word) (s : State) : State := { s with d := hi v, e := lo v }

/-- R21: HL <- v. -/
def State.setHL (v : Word) (s : State) : State := { s with h := hi v, l := lo v }

/-- R21: xx[p]. -/
def State.pair : Pair → State → Word
  | .bc, s => s.bc
  | .de, s => s.de
  | .hl, s => s.hl
  | .sp, s => s.sp

/-- R21: xx[p] <- v. -/
def State.setPair (p : Pair) (v : Word) (s : State) : State :=
  match p with
  | .bc => s.setBC v
  | .de => s.setDE v
  | .hl => s.setHL v
  | .sp => { s with sp := v }

/-- R21, R234: xs[p], where AF packs the flags. -/
def State.stackPair : StackPair → State → Word
  | .bc, s => s.bc
  | .de, s => s.de
  | .hl, s => s.hl
  | .af, s => s.af

/-- R21, R235: xs[p] <- v, where AF unpacks the flags from the low byte. -/
def State.setStackPair (p : StackPair) (v : Word) (s : State) : State :=
  match p with
  | .bc => s.setBC v
  | .de => s.setDE v
  | .hl => s.setHL v
  | .af => { s with a := hi v }.unpackFlags (lo v)

/-- R21: Opnd8Read(i). -/
def State.readOperand (o : Operand8) (s : State) : Byte × State :=
  match o with
  | .reg r => (s.reg r, s)
  | .atHL => memRead s.hl s

/-- R21: Opnd8Write(i, v). -/
def State.writeOperand (o : Operand8) (v : Byte) (s : State) : State :=
  match o with
  | .reg r => s.setReg r v
  | .atHL => memWrite s.hl v s

/-- R108: the target of a relative jump from the address after the displacement. -/
def relativeTarget (pc : Word) (e : Byte) : Word := pc + sext16 e

/-- R108: SP plus a signed displacement. -/
def displaced (sp : Word) (e : Byte) : Word := sp + sext16 e

end Sys2Proof.Machine
end

