-- ==== Sys2Proof/Machine/Alu16.lean ====
section
/-! DEFINITION. 16-bit arithmetic (rules R200, R201). -/

namespace Sys2Proof.Machine

/-- R200: HL <- trunc16(HL + xx[p]); N is cleared, H and C are the carries out of bits 11 and 15, Z is kept. -/
def addHL (p : Pair) (s : State) : State :=
  (s.setFlags s.fZ false (half16 s.hl (s.pair p)) (carry16 s.hl (s.pair p))
    (Deferred.ofAdd16 s.hl (s.pair p))).setHL (s.hl + s.pair p)

/-- R201: SP <- trunc16(SP + sext_16(e)), with the flags of rule R163. -/
def addSP (e : Byte) (s : State) : State :=
  { s.setFlags false false (halfSPe s.sp e) (carrySPe s.sp e) (Deferred.ofAdd (lo s.sp) e false) with
    sp := displaced s.sp e }

/-! ## One meaning for each instruction -/

/-- R200: ADD HL,BC, 0x09. -/
def execAdd_HL_BC (s : State) : Result := .next ((addHL .bc s).chargeBase 0x09)

/-- R200: ADD HL,DE, 0x19. -/
def execAdd_HL_DE (s : State) : Result := .next ((addHL .de s).chargeBase 0x19)

/-- R200: ADD HL,HL, 0x29. -/
def execAdd_HL_HL (s : State) : Result := .next ((addHL .hl s).chargeBase 0x29)

/-- R200: ADD HL,SP, 0x39. -/
def execAdd_HL_SP (s : State) : Result := .next ((addHL .sp s).chargeBase 0x39)

/-- R201: ADD SP,e, 0xE8. -/
def execAdd_SP_e (e : Byte) (s : State) : Result := .next ((addSP e s).chargeBase 0xE8)

end Sys2Proof.Machine
end

