-- ==== Sys2Proof/Machine/Alu8.lean ====
section
/-! DEFINITION. The 8-bit arithmetic and logic group (rules R181 to R189). -/

namespace Sys2Proof.Machine

/-- R181, R182: A <- A + v + cin, with all four flags. -/
def aluAdd (v : Byte) (cin : Bool) (s : State) : State :=
  let r := add8 s.a v cin
  { s.setFlags (r.res == 0) false r.half r.carry (Deferred.ofAdd s.a v cin) with a := r.res }

/-- R183, R184, R188: the flags of A - v - cin. -/
def aluCompare (v : Byte) (cin : Bool) (s : State) : State :=
  let r := sub8 s.a v cin
  s.setFlags (r.res == 0) true r.half r.carry (Deferred.ofSub s.a v cin)

/-- R183, R184: A <- A - v - cin, with all four flags. -/
def aluSub (v : Byte) (cin : Bool) (s : State) : State :=
  { aluCompare v cin s with a := (sub8 s.a v cin).res }

/-- R185 to R187: A <- res, Z from it, N and C cleared, H forced. -/
def aluLogic (res : Byte) (half : Bool) (s : State) : State :=
  { s.setConstFlags (res == 0) false half false with a := res }

/-- R181 to R188: the operation on the accumulator and the second operand. -/
def alu (op : AluOp) (v : Byte) (s : State) : State :=
  match op with
  | .add => aluAdd v false s
  | .adc => aluAdd v s.fC s
  | .sub => aluSub v false s
  | .sbc => aluSub v s.fC s
  | .and => aluLogic (s.a &&& v) true s
  | .xor => aluLogic (s.a ^^^ v) false s
  | .or => aluLogic (s.a ||| v) false s
  | .cp => aluCompare v false s

/-- R189: the register form. -/
def aluReg (op : AluOp) (r : Reg8) (s : State) : State := alu op (s.reg r) s

/-- R189: the memory form. -/
def aluMem (op : AluOp) (s : State) : State :=
  let v := memRead s.hl s
  alu op v.1 v.2

/-- R189: the immediate form. -/
def aluImm (op : AluOp) (d8 : Byte) (s : State) : State := alu op d8 s

/-! ## One meaning for each instruction -/

/-- R181: ADD A,B, 0x80. -/
def execAdd_A_B (s : State) : Result := .next ((aluReg .add .b s).chargeBase 0x80)

/-- R181: ADD A,C, 0x81. -/
def execAdd_A_C (s : State) : Result := .next ((aluReg .add .c s).chargeBase 0x81)

/-- R181: ADD A,D, 0x82. -/
def execAdd_A_D (s : State) : Result := .next ((aluReg .add .d s).chargeBase 0x82)

/-- R181: ADD A,E, 0x83. -/
def execAdd_A_E (s : State) : Result := .next ((aluReg .add .e s).chargeBase 0x83)

/-- R181: ADD A,H, 0x84. -/
def execAdd_A_H (s : State) : Result := .next ((aluReg .add .h s).chargeBase 0x84)

/-- R181: ADD A,L, 0x85. -/
def execAdd_A_L (s : State) : Result := .next ((aluReg .add .l s).chargeBase 0x85)

/-- R181: ADD A,(HL), 0x86. -/
def execAdd_A_mHL (s : State) : Result := .next ((aluMem .add s).chargeBase 0x86)

/-- R181: ADD A,A, 0x87. -/
def execAdd_A_A (s : State) : Result := .next ((aluReg .add .a s).chargeBase 0x87)

/-- R182: ADC A,B, 0x88. -/
def execAdc_A_B (s : State) : Result := .next ((aluReg .adc .b s).chargeBase 0x88)

/-- R182: ADC A,C, 0x89. -/
def execAdc_A_C (s : State) : Result := .next ((aluReg .adc .c s).chargeBase 0x89)

/-- R182: ADC A,D, 0x8A. -/
def execAdc_A_D (s : State) : Result := .next ((aluReg .adc .d s).chargeBase 0x8A)

/-- R182: ADC A,E, 0x8B. -/
def execAdc_A_E (s : State) : Result := .next ((aluReg .adc .e s).chargeBase 0x8B)

/-- R182: ADC A,H, 0x8C. -/
def execAdc_A_H (s : State) : Result := .next ((aluReg .adc .h s).chargeBase 0x8C)

/-- R182: ADC A,L, 0x8D. -/
def execAdc_A_L (s : State) : Result := .next ((aluReg .adc .l s).chargeBase 0x8D)

/-- R182: ADC A,(HL), 0x8E. -/
def execAdc_A_mHL (s : State) : Result := .next ((aluMem .adc s).chargeBase 0x8E)

/-- R182: ADC A,A, 0x8F. -/
def execAdc_A_A (s : State) : Result := .next ((aluReg .adc .a s).chargeBase 0x8F)

/-- R183: SUB B, 0x90. -/
def execSub_B (s : State) : Result := .next ((aluReg .sub .b s).chargeBase 0x90)

/-- R183: SUB C, 0x91. -/
def execSub_C (s : State) : Result := .next ((aluReg .sub .c s).chargeBase 0x91)

/-- R183: SUB D, 0x92. -/
def execSub_D (s : State) : Result := .next ((aluReg .sub .d s).chargeBase 0x92)

/-- R183: SUB E, 0x93. -/
def execSub_E (s : State) : Result := .next ((aluReg .sub .e s).chargeBase 0x93)

/-- R183: SUB H, 0x94. -/
def execSub_H (s : State) : Result := .next ((aluReg .sub .h s).chargeBase 0x94)

/-- R183: SUB L, 0x95. -/
def execSub_L (s : State) : Result := .next ((aluReg .sub .l s).chargeBase 0x95)

/-- R183: SUB (HL), 0x96. -/
def execSub_mHL (s : State) : Result := .next ((aluMem .sub s).chargeBase 0x96)

/-- R183: SUB A, 0x97. -/
def execSub_A (s : State) : Result := .next ((aluReg .sub .a s).chargeBase 0x97)

/-- R184: SBC A,B, 0x98. -/
def execSbc_A_B (s : State) : Result := .next ((aluReg .sbc .b s).chargeBase 0x98)

/-- R184: SBC A,C, 0x99. -/
def execSbc_A_C (s : State) : Result := .next ((aluReg .sbc .c s).chargeBase 0x99)

/-- R184: SBC A,D, 0x9A. -/
def execSbc_A_D (s : State) : Result := .next ((aluReg .sbc .d s).chargeBase 0x9A)

/-- R184: SBC A,E, 0x9B. -/
def execSbc_A_E (s : State) : Result := .next ((aluReg .sbc .e s).chargeBase 0x9B)

/-- R184: SBC A,H, 0x9C. -/
def execSbc_A_H (s : State) : Result := .next ((aluReg .sbc .h s).chargeBase 0x9C)

/-- R184: SBC A,L, 0x9D. -/
def execSbc_A_L (s : State) : Result := .next ((aluReg .sbc .l s).chargeBase 0x9D)

/-- R184: SBC A,(HL), 0x9E. -/
def execSbc_A_mHL (s : State) : Result := .next ((aluMem .sbc s).chargeBase 0x9E)

/-- R184: SBC A,A, 0x9F. -/
def execSbc_A_A (s : State) : Result := .next ((aluReg .sbc .a s).chargeBase 0x9F)

/-- R185: AND B, 0xA0. -/
def execAnd_B (s : State) : Result := .next ((aluReg .and .b s).chargeBase 0xA0)

/-- R185: AND C, 0xA1. -/
def execAnd_C (s : State) : Result := .next ((aluReg .and .c s).chargeBase 0xA1)

/-- R185: AND D, 0xA2. -/
def execAnd_D (s : State) : Result := .next ((aluReg .and .d s).chargeBase 0xA2)

/-- R185: AND E, 0xA3. -/
def execAnd_E (s : State) : Result := .next ((aluReg .and .e s).chargeBase 0xA3)

/-- R185: AND H, 0xA4. -/
def execAnd_H (s : State) : Result := .next ((aluReg .and .h s).chargeBase 0xA4)

/-- R185: AND L, 0xA5. -/
def execAnd_L (s : State) : Result := .next ((aluReg .and .l s).chargeBase 0xA5)

/-- R185: AND (HL), 0xA6. -/
def execAnd_mHL (s : State) : Result := .next ((aluMem .and s).chargeBase 0xA6)

/-- R185: AND A, 0xA7. -/
def execAnd_A (s : State) : Result := .next ((aluReg .and .a s).chargeBase 0xA7)

/-- R186: XOR B, 0xA8. -/
def execXor_B (s : State) : Result := .next ((aluReg .xor .b s).chargeBase 0xA8)

/-- R186: XOR C, 0xA9. -/
def execXor_C (s : State) : Result := .next ((aluReg .xor .c s).chargeBase 0xA9)

/-- R186: XOR D, 0xAA. -/
def execXor_D (s : State) : Result := .next ((aluReg .xor .d s).chargeBase 0xAA)

/-- R186: XOR E, 0xAB. -/
def execXor_E (s : State) : Result := .next ((aluReg .xor .e s).chargeBase 0xAB)

/-- R186: XOR H, 0xAC. -/
def execXor_H (s : State) : Result := .next ((aluReg .xor .h s).chargeBase 0xAC)

/-- R186: XOR L, 0xAD. -/
def execXor_L (s : State) : Result := .next ((aluReg .xor .l s).chargeBase 0xAD)

/-- R186: XOR (HL), 0xAE. -/
def execXor_mHL (s : State) : Result := .next ((aluMem .xor s).chargeBase 0xAE)

/-- R186: XOR A, 0xAF. -/
def execXor_A (s : State) : Result := .next ((aluReg .xor .a s).chargeBase 0xAF)

/-- R187: OR B, 0xB0. -/
def execOr_B (s : State) : Result := .next ((aluReg .or .b s).chargeBase 0xB0)

/-- R187: OR C, 0xB1. -/
def execOr_C (s : State) : Result := .next ((aluReg .or .c s).chargeBase 0xB1)

/-- R187: OR D, 0xB2. -/
def execOr_D (s : State) : Result := .next ((aluReg .or .d s).chargeBase 0xB2)

/-- R187: OR E, 0xB3. -/
def execOr_E (s : State) : Result := .next ((aluReg .or .e s).chargeBase 0xB3)

/-- R187: OR H, 0xB4. -/
def execOr_H (s : State) : Result := .next ((aluReg .or .h s).chargeBase 0xB4)

/-- R187: OR L, 0xB5. -/
def execOr_L (s : State) : Result := .next ((aluReg .or .l s).chargeBase 0xB5)

/-- R187: OR (HL), 0xB6. -/
def execOr_mHL (s : State) : Result := .next ((aluMem .or s).chargeBase 0xB6)

/-- R187: OR A, 0xB7. -/
def execOr_A (s : State) : Result := .next ((aluReg .or .a s).chargeBase 0xB7)

/-- R188: CP B, 0xB8. -/
def execCp_B (s : State) : Result := .next ((aluReg .cp .b s).chargeBase 0xB8)

/-- R188: CP C, 0xB9. -/
def execCp_C (s : State) : Result := .next ((aluReg .cp .c s).chargeBase 0xB9)

/-- R188: CP D, 0xBA. -/
def execCp_D (s : State) : Result := .next ((aluReg .cp .d s).chargeBase 0xBA)

/-- R188: CP E, 0xBB. -/
def execCp_E (s : State) : Result := .next ((aluReg .cp .e s).chargeBase 0xBB)

/-- R188: CP H, 0xBC. -/
def execCp_H (s : State) : Result := .next ((aluReg .cp .h s).chargeBase 0xBC)

/-- R188: CP L, 0xBD. -/
def execCp_L (s : State) : Result := .next ((aluReg .cp .l s).chargeBase 0xBD)

/-- R188: CP (HL), 0xBE. -/
def execCp_mHL (s : State) : Result := .next ((aluMem .cp s).chargeBase 0xBE)

/-- R188: CP A, 0xBF. -/
def execCp_A (s : State) : Result := .next ((aluReg .cp .a s).chargeBase 0xBF)

/-- R181: ADD A,d8, 0xC6. -/
def execAdd_A_d8 (d8 : Byte) (s : State) : Result := .next ((aluImm .add d8 s).chargeBase 0xC6)

/-- R182: ADC A,d8, 0xCE. -/
def execAdc_A_d8 (d8 : Byte) (s : State) : Result := .next ((aluImm .adc d8 s).chargeBase 0xCE)

/-- R183: SUB d8, 0xD6. -/
def execSub_d8 (d8 : Byte) (s : State) : Result := .next ((aluImm .sub d8 s).chargeBase 0xD6)

/-- R184: SBC A,d8, 0xDE. -/
def execSbc_A_d8 (d8 : Byte) (s : State) : Result := .next ((aluImm .sbc d8 s).chargeBase 0xDE)

/-- R185: AND d8, 0xE6. -/
def execAnd_d8 (d8 : Byte) (s : State) : Result := .next ((aluImm .and d8 s).chargeBase 0xE6)

/-- R186: XOR d8, 0xEE. -/
def execXor_d8 (d8 : Byte) (s : State) : Result := .next ((aluImm .xor d8 s).chargeBase 0xEE)

/-- R187: OR d8, 0xF6. -/
def execOr_d8 (d8 : Byte) (s : State) : Result := .next ((aluImm .or d8 s).chargeBase 0xF6)

/-- R188: CP d8, 0xFE. -/
def execCp_d8 (d8 : Byte) (s : State) : Result := .next ((aluImm .cp d8 s).chargeBase 0xFE)

end Sys2Proof.Machine
end

