-- ==== Sys2Proof/Machine/ControlFlow.lean ====
section
/-! DEFINITION. Control transfer (rules R211 to R222). PC is past the whole instruction when a body runs (R220). -/

namespace Sys2Proof.Machine

/-- R211: PC <- trunc16(PC + sext_16(e)). -/
def jumpRelative (e : Byte) (s : State) : State := { s with pc := relativeTarget s.pc e }

/-- R212. -/
def jumpRelativeIf (cc : Cond) (e : Byte) (s : State) : State := if s.cond cc then jumpRelative e s else s

/-- R213: PC <- a16. -/
def jumpTo (a16 : Word) (s : State) : State := { s with pc := a16 }

/-- R214. -/
def jumpIf (cc : Cond) (a16 : Word) (s : State) : State := if s.cond cc then jumpTo a16 s else s

/-- R215: PC <- HL; no memory is read. -/
def jumpHL (s : State) : State := { s with pc := s.hl }

/-- R216: Push16(PC), then PC <- target. -/
def call (target : Word) (s : State) : State := { push16 s.pc s with pc := target }

/-- R217: no stack access when not taken. -/
def callIf (cc : Cond) (a16 : Word) (s : State) : State := if s.cond cc then call a16 s else s

/-- R222: Push16(PC); PC <- RST_VECTOR[y]. -/
def restart (y : Fin 8) (s : State) : State := call (restartAddress s.params y) s

/-- R218: PC <- Pop16(). -/
def popPC (s : State) : State :=
  let r := pop16 s
  { r.2 with pc := r.1 }

/-- R219: no stack access when not taken. -/
def returnIf (cc : Cond) (s : State) : State := if s.cond cc then popPC s else s

/-! ## One meaning for each instruction -/

/-- R211: JR e, 0x18. -/
def execJr_e (e : Byte) (s : State) : Result := .next ((jumpRelative e s).chargeBase 0x18)

/-- R212: JR NZ,e, 0x20. -/
def execJr_NZ_e (e : Byte) (s : State) : Result := .next ((jumpRelativeIf .nz e s).chargeTransfer 0x20 (s.cond .nz))

/-- R212: JR Z,e, 0x28. -/
def execJr_Z_e (e : Byte) (s : State) : Result := .next ((jumpRelativeIf .z e s).chargeTransfer 0x28 (s.cond .z))

/-- R212: JR NC,e, 0x30. -/
def execJr_NC_e (e : Byte) (s : State) : Result := .next ((jumpRelativeIf .nc e s).chargeTransfer 0x30 (s.cond .nc))

/-- R212: JR C,e, 0x38. -/
def execJr_C_e (e : Byte) (s : State) : Result := .next ((jumpRelativeIf .c e s).chargeTransfer 0x38 (s.cond .c))

/-- R219: RET NZ, 0xC0. -/
def execRet_NZ (s : State) : Result := .next ((returnIf .nz s).chargeTransfer 0xC0 (s.cond .nz))

/-- R214: JP NZ,a16, 0xC2. -/
def execJp_NZ_a16 (a16 : Word) (s : State) : Result := .next ((jumpIf .nz a16 s).chargeTransfer 0xC2 (s.cond .nz))

/-- R213: JP a16, 0xC3. -/
def execJp_a16 (a16 : Word) (s : State) : Result := .next ((jumpTo a16 s).chargeBase 0xC3)

/-- R217: CALL NZ,a16, 0xC4. -/
def execCall_NZ_a16 (a16 : Word) (s : State) : Result := .next ((callIf .nz a16 s).chargeTransfer 0xC4 (s.cond .nz))

/-- R222: RST 0x00, 0xC7. -/
def execRst_00 (s : State) : Result := .next ((restart 0 s).chargeBase 0xC7)

/-- R219: RET Z, 0xC8. -/
def execRet_Z (s : State) : Result := .next ((returnIf .z s).chargeTransfer 0xC8 (s.cond .z))

/-- R218: RET, 0xC9. -/
def execRet (s : State) : Result := .next ((popPC s).chargeBase 0xC9)

/-- R214: JP Z,a16, 0xCA. -/
def execJp_Z_a16 (a16 : Word) (s : State) : Result := .next ((jumpIf .z a16 s).chargeTransfer 0xCA (s.cond .z))

/-- R217: CALL Z,a16, 0xCC. -/
def execCall_Z_a16 (a16 : Word) (s : State) : Result := .next ((callIf .z a16 s).chargeTransfer 0xCC (s.cond .z))

/-- R216: CALL a16, 0xCD. -/
def execCall_a16 (a16 : Word) (s : State) : Result := .next ((call a16 s).chargeBase 0xCD)

/-- R222: RST 0x08, 0xCF. -/
def execRst_08 (s : State) : Result := .next ((restart 1 s).chargeBase 0xCF)

/-- R219: RET NC, 0xD0. -/
def execRet_NC (s : State) : Result := .next ((returnIf .nc s).chargeTransfer 0xD0 (s.cond .nc))

/-- R214: JP NC,a16, 0xD2. -/
def execJp_NC_a16 (a16 : Word) (s : State) : Result := .next ((jumpIf .nc a16 s).chargeTransfer 0xD2 (s.cond .nc))

/-- R217: CALL NC,a16, 0xD4. -/
def execCall_NC_a16 (a16 : Word) (s : State) : Result := .next ((callIf .nc a16 s).chargeTransfer 0xD4 (s.cond .nc))

/-- R222: RST 0x10, 0xD7. -/
def execRst_10 (s : State) : Result := .next ((restart 2 s).chargeBase 0xD7)

/-- R219: RET C, 0xD8. -/
def execRet_C (s : State) : Result := .next ((returnIf .c s).chargeTransfer 0xD8 (s.cond .c))

/-- R221: RETI, 0xD9. -/
def execReti (s : State) : Result := .next ((returnFromInterrupt s).chargeBase 0xD9)

/-- R214: JP C,a16, 0xDA. -/
def execJp_C_a16 (a16 : Word) (s : State) : Result := .next ((jumpIf .c a16 s).chargeTransfer 0xDA (s.cond .c))

/-- R217: CALL C,a16, 0xDC. -/
def execCall_C_a16 (a16 : Word) (s : State) : Result := .next ((callIf .c a16 s).chargeTransfer 0xDC (s.cond .c))

/-- R222: RST 0x18, 0xDF. -/
def execRst_18 (s : State) : Result := .next ((restart 3 s).chargeBase 0xDF)

/-- R222: RST 0x20, 0xE7. -/
def execRst_20 (s : State) : Result := .next ((restart 4 s).chargeBase 0xE7)

/-- R215: JP (HL), 0xE9. -/
def execJp_mHL (s : State) : Result := .next ((jumpHL s).chargeBase 0xE9)

/-- R222: RST 0x28, 0xEF. -/
def execRst_28 (s : State) : Result := .next ((restart 5 s).chargeBase 0xEF)

/-- R222: RST 0x30, 0xF7. -/
def execRst_30 (s : State) : Result := .next ((restart 6 s).chargeBase 0xF7)

/-- R222: RST 0x38, 0xFF. -/
def execRst_38 (s : State) : Result := .next ((restart 7 s).chargeBase 0xFF)

end Sys2Proof.Machine
end

