-- ==== Sys2Proof/Machine/Extended.lean ====
section
/-! DEFINITION. The prefixed group (rules R240 to R253). -/

namespace Sys2Proof.Machine

/-- R243 to R250: the result of a rotate or shift of v with the old carry, and the bit moved out. -/
def rotateResult (op : RotOp) (v : Byte) (carry : Bool) : Byte × Bool :=
  match op with
  | .rlc => ((v <<< 1) + bitByte (v.getLsbD 7), v.getLsbD 7)
  | .rrc => ((v >>> 1) + bitByte (v.getLsbD 0) * 0x80, v.getLsbD 0)
  | .rl => ((v <<< 1) + bitByte carry, v.getLsbD 7)
  | .rr => ((v >>> 1) + bitByte carry * 0x80, v.getLsbD 0)
  | .sla => (v <<< 1, v.getLsbD 7)
  | .sra => ((v >>> 1) + bitByte (v.getLsbD 7) * 0x80, v.getLsbD 0)
  | .swap => ((v <<< 4) + (v >>> 4), false)
  | .srl => (v >>> 1, v.getLsbD 0)

/-- R241, R243 to R250: read the operand, rotate it, write it back; Z computed, N and H cleared, C the bit moved out. -/
def rotate (op : RotOp) (o : Operand8) (s : State) : State :=
  let v := s.readOperand o
  let r := rotateResult op v.1 v.2.fC
  (v.2.writeOperand o r.1).setConstFlags (r.1 == 0) false false r.2

/-- R251: Z is the complement of bit b, N is cleared, H is set, C is kept; the operand is not written. -/
def testBit (b : Fin 8) (o : Operand8) (s : State) : State :=
  let v := s.readOperand o
  v.2.setConstFlags (!v.1.getLsbD b.val) false true v.2.fC

/-- R252: v AND (0xFF - 2^b), written back. -/
def resetBit (b : Fin 8) (o : Operand8) (s : State) : State :=
  let v := s.readOperand o
  v.2.writeOperand o (v.1 &&& (0xFF - (1#8 <<< b.val)))

/-- R253: v OR 2^b, written back. -/
def setBit (b : Fin 8) (o : Operand8) (s : State) : State :=
  let v := s.readOperand o
  v.2.writeOperand o (v.1 ||| (1#8 <<< b.val))

/-- R117, R240: execute extended(op2), by the fields x, y, z of op2. -/
def extended (op2 : Byte) (s : State) : State :=
  let o := Operand8.ofSelector (fieldZ op2)
  match fieldX op2 with
  | 0 => rotate (RotOp.ofSelector (fieldY op2)) o s
  | 1 => testBit (Fin.ofNat 8 (fieldY op2)) o s
  | 2 => resetBit (Fin.ofNat 8 (fieldY op2)) o s
  | _ => setBit (Fin.ofNat 8 (fieldY op2)) o s

/-- R242: the prefix has no effect of its own: byte 1 is fetched and the extended instruction executed, at its cost
(log 11). -/
def prefixed (s : State) : State :=
  let op2 := fetch8 s
  (extended op2.1 op2.2).chargeExtended op2.1

/-! ## One meaning for each instruction -/

/-- R242: PREFIX CB, 0xCB. -/
def execCbPrefix (s : State) : Result := .next (prefixed s)

/-- R243: RLC B, 0xCB 0x00. -/
def execRlc_B (s : State) : Result := .next ((rotate .rlc (.reg .b) s).chargeExtended 0x00)

/-- R243: RLC C, 0xCB 0x01. -/
def execRlc_C (s : State) : Result := .next ((rotate .rlc (.reg .c) s).chargeExtended 0x01)

/-- R243: RLC D, 0xCB 0x02. -/
def execRlc_D (s : State) : Result := .next ((rotate .rlc (.reg .d) s).chargeExtended 0x02)

/-- R243: RLC E, 0xCB 0x03. -/
def execRlc_E (s : State) : Result := .next ((rotate .rlc (.reg .e) s).chargeExtended 0x03)

/-- R243: RLC H, 0xCB 0x04. -/
def execRlc_H (s : State) : Result := .next ((rotate .rlc (.reg .h) s).chargeExtended 0x04)

/-- R243: RLC L, 0xCB 0x05. -/
def execRlc_L (s : State) : Result := .next ((rotate .rlc (.reg .l) s).chargeExtended 0x05)

/-- R243: RLC (HL), 0xCB 0x06. -/
def execRlc_mHL (s : State) : Result := .next ((rotate .rlc .atHL s).chargeExtended 0x06)

/-- R243: RLC A, 0xCB 0x07. -/
def execRlc_A (s : State) : Result := .next ((rotate .rlc (.reg .a) s).chargeExtended 0x07)

/-- R244: RRC B, 0xCB 0x08. -/
def execRrc_B (s : State) : Result := .next ((rotate .rrc (.reg .b) s).chargeExtended 0x08)

/-- R244: RRC C, 0xCB 0x09. -/
def execRrc_C (s : State) : Result := .next ((rotate .rrc (.reg .c) s).chargeExtended 0x09)

/-- R244: RRC D, 0xCB 0x0A. -/
def execRrc_D (s : State) : Result := .next ((rotate .rrc (.reg .d) s).chargeExtended 0x0A)

/-- R244: RRC E, 0xCB 0x0B. -/
def execRrc_E (s : State) : Result := .next ((rotate .rrc (.reg .e) s).chargeExtended 0x0B)

/-- R244: RRC H, 0xCB 0x0C. -/
def execRrc_H (s : State) : Result := .next ((rotate .rrc (.reg .h) s).chargeExtended 0x0C)

/-- R244: RRC L, 0xCB 0x0D. -/
def execRrc_L (s : State) : Result := .next ((rotate .rrc (.reg .l) s).chargeExtended 0x0D)

/-- R244: RRC (HL), 0xCB 0x0E. -/
def execRrc_mHL (s : State) : Result := .next ((rotate .rrc .atHL s).chargeExtended 0x0E)

/-- R244: RRC A, 0xCB 0x0F. -/
def execRrc_A (s : State) : Result := .next ((rotate .rrc (.reg .a) s).chargeExtended 0x0F)

/-- R245: RL B, 0xCB 0x10. -/
def execRl_B (s : State) : Result := .next ((rotate .rl (.reg .b) s).chargeExtended 0x10)

/-- R245: RL C, 0xCB 0x11. -/
def execRl_C (s : State) : Result := .next ((rotate .rl (.reg .c) s).chargeExtended 0x11)

/-- R245: RL D, 0xCB 0x12. -/
def execRl_D (s : State) : Result := .next ((rotate .rl (.reg .d) s).chargeExtended 0x12)

/-- R245: RL E, 0xCB 0x13. -/
def execRl_E (s : State) : Result := .next ((rotate .rl (.reg .e) s).chargeExtended 0x13)

/-- R245: RL H, 0xCB 0x14. -/
def execRl_H (s : State) : Result := .next ((rotate .rl (.reg .h) s).chargeExtended 0x14)

/-- R245: RL L, 0xCB 0x15. -/
def execRl_L (s : State) : Result := .next ((rotate .rl (.reg .l) s).chargeExtended 0x15)

/-- R245: RL (HL), 0xCB 0x16. -/
def execRl_mHL (s : State) : Result := .next ((rotate .rl .atHL s).chargeExtended 0x16)

/-- R245: RL A, 0xCB 0x17. -/
def execRl_A (s : State) : Result := .next ((rotate .rl (.reg .a) s).chargeExtended 0x17)

/-- R246: RR B, 0xCB 0x18. -/
def execRr_B (s : State) : Result := .next ((rotate .rr (.reg .b) s).chargeExtended 0x18)

/-- R246: RR C, 0xCB 0x19. -/
def execRr_C (s : State) : Result := .next ((rotate .rr (.reg .c) s).chargeExtended 0x19)

/-- R246: RR D, 0xCB 0x1A. -/
def execRr_D (s : State) : Result := .next ((rotate .rr (.reg .d) s).chargeExtended 0x1A)

/-- R246: RR E, 0xCB 0x1B. -/
def execRr_E (s : State) : Result := .next ((rotate .rr (.reg .e) s).chargeExtended 0x1B)

/-- R246: RR H, 0xCB 0x1C. -/
def execRr_H (s : State) : Result := .next ((rotate .rr (.reg .h) s).chargeExtended 0x1C)

/-- R246: RR L, 0xCB 0x1D. -/
def execRr_L (s : State) : Result := .next ((rotate .rr (.reg .l) s).chargeExtended 0x1D)

/-- R246: RR (HL), 0xCB 0x1E. -/
def execRr_mHL (s : State) : Result := .next ((rotate .rr .atHL s).chargeExtended 0x1E)

/-- R246: RR A, 0xCB 0x1F. -/
def execRr_A (s : State) : Result := .next ((rotate .rr (.reg .a) s).chargeExtended 0x1F)

/-- R247: SLA B, 0xCB 0x20. -/
def execSla_B (s : State) : Result := .next ((rotate .sla (.reg .b) s).chargeExtended 0x20)

/-- R247: SLA C, 0xCB 0x21. -/
def execSla_C (s : State) : Result := .next ((rotate .sla (.reg .c) s).chargeExtended 0x21)

/-- R247: SLA D, 0xCB 0x22. -/
def execSla_D (s : State) : Result := .next ((rotate .sla (.reg .d) s).chargeExtended 0x22)

/-- R247: SLA E, 0xCB 0x23. -/
def execSla_E (s : State) : Result := .next ((rotate .sla (.reg .e) s).chargeExtended 0x23)

/-- R247: SLA H, 0xCB 0x24. -/
def execSla_H (s : State) : Result := .next ((rotate .sla (.reg .h) s).chargeExtended 0x24)

/-- R247: SLA L, 0xCB 0x25. -/
def execSla_L (s : State) : Result := .next ((rotate .sla (.reg .l) s).chargeExtended 0x25)

/-- R247: SLA (HL), 0xCB 0x26. -/
def execSla_mHL (s : State) : Result := .next ((rotate .sla .atHL s).chargeExtended 0x26)

/-- R247: SLA A, 0xCB 0x27. -/
def execSla_A (s : State) : Result := .next ((rotate .sla (.reg .a) s).chargeExtended 0x27)

/-- R248: SRA B, 0xCB 0x28. -/
def execSra_B (s : State) : Result := .next ((rotate .sra (.reg .b) s).chargeExtended 0x28)

/-- R248: SRA C, 0xCB 0x29. -/
def execSra_C (s : State) : Result := .next ((rotate .sra (.reg .c) s).chargeExtended 0x29)

/-- R248: SRA D, 0xCB 0x2A. -/
def execSra_D (s : State) : Result := .next ((rotate .sra (.reg .d) s).chargeExtended 0x2A)

/-- R248: SRA E, 0xCB 0x2B. -/
def execSra_E (s : State) : Result := .next ((rotate .sra (.reg .e) s).chargeExtended 0x2B)

/-- R248: SRA H, 0xCB 0x2C. -/
def execSra_H (s : State) : Result := .next ((rotate .sra (.reg .h) s).chargeExtended 0x2C)

/-- R248: SRA L, 0xCB 0x2D. -/
def execSra_L (s : State) : Result := .next ((rotate .sra (.reg .l) s).chargeExtended 0x2D)

/-- R248: SRA (HL), 0xCB 0x2E. -/
def execSra_mHL (s : State) : Result := .next ((rotate .sra .atHL s).chargeExtended 0x2E)

/-- R248: SRA A, 0xCB 0x2F. -/
def execSra_A (s : State) : Result := .next ((rotate .sra (.reg .a) s).chargeExtended 0x2F)

/-- R249: SWAP B, 0xCB 0x30. -/
def execSwap_B (s : State) : Result := .next ((rotate .swap (.reg .b) s).chargeExtended 0x30)

/-- R249: SWAP C, 0xCB 0x31. -/
def execSwap_C (s : State) : Result := .next ((rotate .swap (.reg .c) s).chargeExtended 0x31)

/-- R249: SWAP D, 0xCB 0x32. -/
def execSwap_D (s : State) : Result := .next ((rotate .swap (.reg .d) s).chargeExtended 0x32)

/-- R249: SWAP E, 0xCB 0x33. -/
def execSwap_E (s : State) : Result := .next ((rotate .swap (.reg .e) s).chargeExtended 0x33)

/-- R249: SWAP H, 0xCB 0x34. -/
def execSwap_H (s : State) : Result := .next ((rotate .swap (.reg .h) s).chargeExtended 0x34)

/-- R249: SWAP L, 0xCB 0x35. -/
def execSwap_L (s : State) : Result := .next ((rotate .swap (.reg .l) s).chargeExtended 0x35)

/-- R249: SWAP (HL), 0xCB 0x36. -/
def execSwap_mHL (s : State) : Result := .next ((rotate .swap .atHL s).chargeExtended 0x36)

/-- R249: SWAP A, 0xCB 0x37. -/
def execSwap_A (s : State) : Result := .next ((rotate .swap (.reg .a) s).chargeExtended 0x37)

/-- R250: SRL B, 0xCB 0x38. -/
def execSrl_B (s : State) : Result := .next ((rotate .srl (.reg .b) s).chargeExtended 0x38)

/-- R250: SRL C, 0xCB 0x39. -/
def execSrl_C (s : State) : Result := .next ((rotate .srl (.reg .c) s).chargeExtended 0x39)

/-- R250: SRL D, 0xCB 0x3A. -/
def execSrl_D (s : State) : Result := .next ((rotate .srl (.reg .d) s).chargeExtended 0x3A)

/-- R250: SRL E, 0xCB 0x3B. -/
def execSrl_E (s : State) : Result := .next ((rotate .srl (.reg .e) s).chargeExtended 0x3B)

/-- R250: SRL H, 0xCB 0x3C. -/
def execSrl_H (s : State) : Result := .next ((rotate .srl (.reg .h) s).chargeExtended 0x3C)

/-- R250: SRL L, 0xCB 0x3D. -/
def execSrl_L (s : State) : Result := .next ((rotate .srl (.reg .l) s).chargeExtended 0x3D)

/-- R250: SRL (HL), 0xCB 0x3E. -/
def execSrl_mHL (s : State) : Result := .next ((rotate .srl .atHL s).chargeExtended 0x3E)

/-- R250: SRL A, 0xCB 0x3F. -/
def execSrl_A (s : State) : Result := .next ((rotate .srl (.reg .a) s).chargeExtended 0x3F)

/-- R251: BIT 0,B, 0xCB 0x40. -/
def execBit_0_B (s : State) : Result := .next ((testBit 0 (.reg .b) s).chargeExtended 0x40)

/-- R251: BIT 0,C, 0xCB 0x41. -/
def execBit_0_C (s : State) : Result := .next ((testBit 0 (.reg .c) s).chargeExtended 0x41)

/-- R251: BIT 0,D, 0xCB 0x42. -/
def execBit_0_D (s : State) : Result := .next ((testBit 0 (.reg .d) s).chargeExtended 0x42)

/-- R251: BIT 0,E, 0xCB 0x43. -/
def execBit_0_E (s : State) : Result := .next ((testBit 0 (.reg .e) s).chargeExtended 0x43)

/-- R251: BIT 0,H, 0xCB 0x44. -/
def execBit_0_H (s : State) : Result := .next ((testBit 0 (.reg .h) s).chargeExtended 0x44)

/-- R251: BIT 0,L, 0xCB 0x45. -/
def execBit_0_L (s : State) : Result := .next ((testBit 0 (.reg .l) s).chargeExtended 0x45)

/-- R251: BIT 0,(HL), 0xCB 0x46. -/
def execBit_0_mHL (s : State) : Result := .next ((testBit 0 .atHL s).chargeExtended 0x46)

/-- R251: BIT 0,A, 0xCB 0x47. -/
def execBit_0_A (s : State) : Result := .next ((testBit 0 (.reg .a) s).chargeExtended 0x47)

/-- R251: BIT 1,B, 0xCB 0x48. -/
def execBit_1_B (s : State) : Result := .next ((testBit 1 (.reg .b) s).chargeExtended 0x48)

/-- R251: BIT 1,C, 0xCB 0x49. -/
def execBit_1_C (s : State) : Result := .next ((testBit 1 (.reg .c) s).chargeExtended 0x49)

/-- R251: BIT 1,D, 0xCB 0x4A. -/
def execBit_1_D (s : State) : Result := .next ((testBit 1 (.reg .d) s).chargeExtended 0x4A)

/-- R251: BIT 1,E, 0xCB 0x4B. -/
def execBit_1_E (s : State) : Result := .next ((testBit 1 (.reg .e) s).chargeExtended 0x4B)

/-- R251: BIT 1,H, 0xCB 0x4C. -/
def execBit_1_H (s : State) : Result := .next ((testBit 1 (.reg .h) s).chargeExtended 0x4C)

/-- R251: BIT 1,L, 0xCB 0x4D. -/
def execBit_1_L (s : State) : Result := .next ((testBit 1 (.reg .l) s).chargeExtended 0x4D)

/-- R251: BIT 1,(HL), 0xCB 0x4E. -/
def execBit_1_mHL (s : State) : Result := .next ((testBit 1 .atHL s).chargeExtended 0x4E)

/-- R251: BIT 1,A, 0xCB 0x4F. -/
def execBit_1_A (s : State) : Result := .next ((testBit 1 (.reg .a) s).chargeExtended 0x4F)

/-- R251: BIT 2,B, 0xCB 0x50. -/
def execBit_2_B (s : State) : Result := .next ((testBit 2 (.reg .b) s).chargeExtended 0x50)

/-- R251: BIT 2,C, 0xCB 0x51. -/
def execBit_2_C (s : State) : Result := .next ((testBit 2 (.reg .c) s).chargeExtended 0x51)

/-- R251: BIT 2,D, 0xCB 0x52. -/
def execBit_2_D (s : State) : Result := .next ((testBit 2 (.reg .d) s).chargeExtended 0x52)

/-- R251: BIT 2,E, 0xCB 0x53. -/
def execBit_2_E (s : State) : Result := .next ((testBit 2 (.reg .e) s).chargeExtended 0x53)

/-- R251: BIT 2,H, 0xCB 0x54. -/
def execBit_2_H (s : State) : Result := .next ((testBit 2 (.reg .h) s).chargeExtended 0x54)

/-- R251: BIT 2,L, 0xCB 0x55. -/
def execBit_2_L (s : State) : Result := .next ((testBit 2 (.reg .l) s).chargeExtended 0x55)

/-- R251: BIT 2,(HL), 0xCB 0x56. -/
def execBit_2_mHL (s : State) : Result := .next ((testBit 2 .atHL s).chargeExtended 0x56)

/-- R251: BIT 2,A, 0xCB 0x57. -/
def execBit_2_A (s : State) : Result := .next ((testBit 2 (.reg .a) s).chargeExtended 0x57)

/-- R251: BIT 3,B, 0xCB 0x58. -/
def execBit_3_B (s : State) : Result := .next ((testBit 3 (.reg .b) s).chargeExtended 0x58)

/-- R251: BIT 3,C, 0xCB 0x59. -/
def execBit_3_C (s : State) : Result := .next ((testBit 3 (.reg .c) s).chargeExtended 0x59)

/-- R251: BIT 3,D, 0xCB 0x5A. -/
def execBit_3_D (s : State) : Result := .next ((testBit 3 (.reg .d) s).chargeExtended 0x5A)

/-- R251: BIT 3,E, 0xCB 0x5B. -/
def execBit_3_E (s : State) : Result := .next ((testBit 3 (.reg .e) s).chargeExtended 0x5B)

/-- R251: BIT 3,H, 0xCB 0x5C. -/
def execBit_3_H (s : State) : Result := .next ((testBit 3 (.reg .h) s).chargeExtended 0x5C)

/-- R251: BIT 3,L, 0xCB 0x5D. -/
def execBit_3_L (s : State) : Result := .next ((testBit 3 (.reg .l) s).chargeExtended 0x5D)

/-- R251: BIT 3,(HL), 0xCB 0x5E. -/
def execBit_3_mHL (s : State) : Result := .next ((testBit 3 .atHL s).chargeExtended 0x5E)

/-- R251: BIT 3,A, 0xCB 0x5F. -/
def execBit_3_A (s : State) : Result := .next ((testBit 3 (.reg .a) s).chargeExtended 0x5F)

/-- R251: BIT 4,B, 0xCB 0x60. -/
def execBit_4_B (s : State) : Result := .next ((testBit 4 (.reg .b) s).chargeExtended 0x60)

/-- R251: BIT 4,C, 0xCB 0x61. -/
def execBit_4_C (s : State) : Result := .next ((testBit 4 (.reg .c) s).chargeExtended 0x61)

/-- R251: BIT 4,D, 0xCB 0x62. -/
def execBit_4_D (s : State) : Result := .next ((testBit 4 (.reg .d) s).chargeExtended 0x62)

/-- R251: BIT 4,E, 0xCB 0x63. -/
def execBit_4_E (s : State) : Result := .next ((testBit 4 (.reg .e) s).chargeExtended 0x63)

/-- R251: BIT 4,H, 0xCB 0x64. -/
def execBit_4_H (s : State) : Result := .next ((testBit 4 (.reg .h) s).chargeExtended 0x64)

/-- R251: BIT 4,L, 0xCB 0x65. -/
def execBit_4_L (s : State) : Result := .next ((testBit 4 (.reg .l) s).chargeExtended 0x65)

/-- R251: BIT 4,(HL), 0xCB 0x66. -/
def execBit_4_mHL (s : State) : Result := .next ((testBit 4 .atHL s).chargeExtended 0x66)

/-- R251: BIT 4,A, 0xCB 0x67. -/
def execBit_4_A (s : State) : Result := .next ((testBit 4 (.reg .a) s).chargeExtended 0x67)

/-- R251: BIT 5,B, 0xCB 0x68. -/
def execBit_5_B (s : State) : Result := .next ((testBit 5 (.reg .b) s).chargeExtended 0x68)

/-- R251: BIT 5,C, 0xCB 0x69. -/
def execBit_5_C (s : State) : Result := .next ((testBit 5 (.reg .c) s).chargeExtended 0x69)

/-- R251: BIT 5,D, 0xCB 0x6A. -/
def execBit_5_D (s : State) : Result := .next ((testBit 5 (.reg .d) s).chargeExtended 0x6A)

/-- R251: BIT 5,E, 0xCB 0x6B. -/
def execBit_5_E (s : State) : Result := .next ((testBit 5 (.reg .e) s).chargeExtended 0x6B)

/-- R251: BIT 5,H, 0xCB 0x6C. -/
def execBit_5_H (s : State) : Result := .next ((testBit 5 (.reg .h) s).chargeExtended 0x6C)

/-- R251: BIT 5,L, 0xCB 0x6D. -/
def execBit_5_L (s : State) : Result := .next ((testBit 5 (.reg .l) s).chargeExtended 0x6D)

/-- R251: BIT 5,(HL), 0xCB 0x6E. -/
def execBit_5_mHL (s : State) : Result := .next ((testBit 5 .atHL s).chargeExtended 0x6E)

/-- R251: BIT 5,A, 0xCB 0x6F. -/
def execBit_5_A (s : State) : Result := .next ((testBit 5 (.reg .a) s).chargeExtended 0x6F)

/-- R251: BIT 6,B, 0xCB 0x70. -/
def execBit_6_B (s : State) : Result := .next ((testBit 6 (.reg .b) s).chargeExtended 0x70)

/-- R251: BIT 6,C, 0xCB 0x71. -/
def execBit_6_C (s : State) : Result := .next ((testBit 6 (.reg .c) s).chargeExtended 0x71)

/-- R251: BIT 6,D, 0xCB 0x72. -/
def execBit_6_D (s : State) : Result := .next ((testBit 6 (.reg .d) s).chargeExtended 0x72)

/-- R251: BIT 6,E, 0xCB 0x73. -/
def execBit_6_E (s : State) : Result := .next ((testBit 6 (.reg .e) s).chargeExtended 0x73)

/-- R251: BIT 6,H, 0xCB 0x74. -/
def execBit_6_H (s : State) : Result := .next ((testBit 6 (.reg .h) s).chargeExtended 0x74)

/-- R251: BIT 6,L, 0xCB 0x75. -/
def execBit_6_L (s : State) : Result := .next ((testBit 6 (.reg .l) s).chargeExtended 0x75)

/-- R251: BIT 6,(HL), 0xCB 0x76. -/
def execBit_6_mHL (s : State) : Result := .next ((testBit 6 .atHL s).chargeExtended 0x76)

/-- R251: BIT 6,A, 0xCB 0x77. -/
def execBit_6_A (s : State) : Result := .next ((testBit 6 (.reg .a) s).chargeExtended 0x77)

/-- R251: BIT 7,B, 0xCB 0x78. -/
def execBit_7_B (s : State) : Result := .next ((testBit 7 (.reg .b) s).chargeExtended 0x78)

/-- R251: BIT 7,C, 0xCB 0x79. -/
def execBit_7_C (s : State) : Result := .next ((testBit 7 (.reg .c) s).chargeExtended 0x79)

/-- R251: BIT 7,D, 0xCB 0x7A. -/
def execBit_7_D (s : State) : Result := .next ((testBit 7 (.reg .d) s).chargeExtended 0x7A)

/-- R251: BIT 7,E, 0xCB 0x7B. -/
def execBit_7_E (s : State) : Result := .next ((testBit 7 (.reg .e) s).chargeExtended 0x7B)

/-- R251: BIT 7,H, 0xCB 0x7C. -/
def execBit_7_H (s : State) : Result := .next ((testBit 7 (.reg .h) s).chargeExtended 0x7C)

/-- R251: BIT 7,L, 0xCB 0x7D. -/
def execBit_7_L (s : State) : Result := .next ((testBit 7 (.reg .l) s).chargeExtended 0x7D)

/-- R251: BIT 7,(HL), 0xCB 0x7E. -/
def execBit_7_mHL (s : State) : Result := .next ((testBit 7 .atHL s).chargeExtended 0x7E)

/-- R251: BIT 7,A, 0xCB 0x7F. -/
def execBit_7_A (s : State) : Result := .next ((testBit 7 (.reg .a) s).chargeExtended 0x7F)

/-- R252: RES 0,B, 0xCB 0x80. -/
def execRes_0_B (s : State) : Result := .next ((resetBit 0 (.reg .b) s).chargeExtended 0x80)

/-- R252: RES 0,C, 0xCB 0x81. -/
def execRes_0_C (s : State) : Result := .next ((resetBit 0 (.reg .c) s).chargeExtended 0x81)

/-- R252: RES 0,D, 0xCB 0x82. -/
def execRes_0_D (s : State) : Result := .next ((resetBit 0 (.reg .d) s).chargeExtended 0x82)

/-- R252: RES 0,E, 0xCB 0x83. -/
def execRes_0_E (s : State) : Result := .next ((resetBit 0 (.reg .e) s).chargeExtended 0x83)

/-- R252: RES 0,H, 0xCB 0x84. -/
def execRes_0_H (s : State) : Result := .next ((resetBit 0 (.reg .h) s).chargeExtended 0x84)

/-- R252: RES 0,L, 0xCB 0x85. -/
def execRes_0_L (s : State) : Result := .next ((resetBit 0 (.reg .l) s).chargeExtended 0x85)

/-- R252: RES 0,(HL), 0xCB 0x86. -/
def execRes_0_mHL (s : State) : Result := .next ((resetBit 0 .atHL s).chargeExtended 0x86)

/-- R252: RES 0,A, 0xCB 0x87. -/
def execRes_0_A (s : State) : Result := .next ((resetBit 0 (.reg .a) s).chargeExtended 0x87)

/-- R252: RES 1,B, 0xCB 0x88. -/
def execRes_1_B (s : State) : Result := .next ((resetBit 1 (.reg .b) s).chargeExtended 0x88)

/-- R252: RES 1,C, 0xCB 0x89. -/
def execRes_1_C (s : State) : Result := .next ((resetBit 1 (.reg .c) s).chargeExtended 0x89)

/-- R252: RES 1,D, 0xCB 0x8A. -/
def execRes_1_D (s : State) : Result := .next ((resetBit 1 (.reg .d) s).chargeExtended 0x8A)

/-- R252: RES 1,E, 0xCB 0x8B. -/
def execRes_1_E (s : State) : Result := .next ((resetBit 1 (.reg .e) s).chargeExtended 0x8B)

/-- R252: RES 1,H, 0xCB 0x8C. -/
def execRes_1_H (s : State) : Result := .next ((resetBit 1 (.reg .h) s).chargeExtended 0x8C)

/-- R252: RES 1,L, 0xCB 0x8D. -/
def execRes_1_L (s : State) : Result := .next ((resetBit 1 (.reg .l) s).chargeExtended 0x8D)

/-- R252: RES 1,(HL), 0xCB 0x8E. -/
def execRes_1_mHL (s : State) : Result := .next ((resetBit 1 .atHL s).chargeExtended 0x8E)

/-- R252: RES 1,A, 0xCB 0x8F. -/
def execRes_1_A (s : State) : Result := .next ((resetBit 1 (.reg .a) s).chargeExtended 0x8F)

/-- R252: RES 2,B, 0xCB 0x90. -/
def execRes_2_B (s : State) : Result := .next ((resetBit 2 (.reg .b) s).chargeExtended 0x90)

/-- R252: RES 2,C, 0xCB 0x91. -/
def execRes_2_C (s : State) : Result := .next ((resetBit 2 (.reg .c) s).chargeExtended 0x91)

/-- R252: RES 2,D, 0xCB 0x92. -/
def execRes_2_D (s : State) : Result := .next ((resetBit 2 (.reg .d) s).chargeExtended 0x92)

/-- R252: RES 2,E, 0xCB 0x93. -/
def execRes_2_E (s : State) : Result := .next ((resetBit 2 (.reg .e) s).chargeExtended 0x93)

/-- R252: RES 2,H, 0xCB 0x94. -/
def execRes_2_H (s : State) : Result := .next ((resetBit 2 (.reg .h) s).chargeExtended 0x94)

/-- R252: RES 2,L, 0xCB 0x95. -/
def execRes_2_L (s : State) : Result := .next ((resetBit 2 (.reg .l) s).chargeExtended 0x95)

/-- R252: RES 2,(HL), 0xCB 0x96. -/
def execRes_2_mHL (s : State) : Result := .next ((resetBit 2 .atHL s).chargeExtended 0x96)

/-- R252: RES 2,A, 0xCB 0x97. -/
def execRes_2_A (s : State) : Result := .next ((resetBit 2 (.reg .a) s).chargeExtended 0x97)

/-- R252: RES 3,B, 0xCB 0x98. -/
def execRes_3_B (s : State) : Result := .next ((resetBit 3 (.reg .b) s).chargeExtended 0x98)

/-- R252: RES 3,C, 0xCB 0x99. -/
def execRes_3_C (s : State) : Result := .next ((resetBit 3 (.reg .c) s).chargeExtended 0x99)

/-- R252: RES 3,D, 0xCB 0x9A. -/
def execRes_3_D (s : State) : Result := .next ((resetBit 3 (.reg .d) s).chargeExtended 0x9A)

/-- R252: RES 3,E, 0xCB 0x9B. -/
def execRes_3_E (s : State) : Result := .next ((resetBit 3 (.reg .e) s).chargeExtended 0x9B)

/-- R252: RES 3,H, 0xCB 0x9C. -/
def execRes_3_H (s : State) : Result := .next ((resetBit 3 (.reg .h) s).chargeExtended 0x9C)

/-- R252: RES 3,L, 0xCB 0x9D. -/
def execRes_3_L (s : State) : Result := .next ((resetBit 3 (.reg .l) s).chargeExtended 0x9D)

/-- R252: RES 3,(HL), 0xCB 0x9E. -/
def execRes_3_mHL (s : State) : Result := .next ((resetBit 3 .atHL s).chargeExtended 0x9E)

/-- R252: RES 3,A, 0xCB 0x9F. -/
def execRes_3_A (s : State) : Result := .next ((resetBit 3 (.reg .a) s).chargeExtended 0x9F)

/-- R252: RES 4,B, 0xCB 0xA0. -/
def execRes_4_B (s : State) : Result := .next ((resetBit 4 (.reg .b) s).chargeExtended 0xA0)

/-- R252: RES 4,C, 0xCB 0xA1. -/
def execRes_4_C (s : State) : Result := .next ((resetBit 4 (.reg .c) s).chargeExtended 0xA1)

/-- R252: RES 4,D, 0xCB 0xA2. -/
def execRes_4_D (s : State) : Result := .next ((resetBit 4 (.reg .d) s).chargeExtended 0xA2)

/-- R252: RES 4,E, 0xCB 0xA3. -/
def execRes_4_E (s : State) : Result := .next ((resetBit 4 (.reg .e) s).chargeExtended 0xA3)

/-- R252: RES 4,H, 0xCB 0xA4. -/
def execRes_4_H (s : State) : Result := .next ((resetBit 4 (.reg .h) s).chargeExtended 0xA4)

/-- R252: RES 4,L, 0xCB 0xA5. -/
def execRes_4_L (s : State) : Result := .next ((resetBit 4 (.reg .l) s).chargeExtended 0xA5)

/-- R252: RES 4,(HL), 0xCB 0xA6. -/
def execRes_4_mHL (s : State) : Result := .next ((resetBit 4 .atHL s).chargeExtended 0xA6)

/-- R252: RES 4,A, 0xCB 0xA7. -/
def execRes_4_A (s : State) : Result := .next ((resetBit 4 (.reg .a) s).chargeExtended 0xA7)

/-- R252: RES 5,B, 0xCB 0xA8. -/
def execRes_5_B (s : State) : Result := .next ((resetBit 5 (.reg .b) s).chargeExtended 0xA8)

/-- R252: RES 5,C, 0xCB 0xA9. -/
def execRes_5_C (s : State) : Result := .next ((resetBit 5 (.reg .c) s).chargeExtended 0xA9)

/-- R252: RES 5,D, 0xCB 0xAA. -/
def execRes_5_D (s : State) : Result := .next ((resetBit 5 (.reg .d) s).chargeExtended 0xAA)

/-- R252: RES 5,E, 0xCB 0xAB. -/
def execRes_5_E (s : State) : Result := .next ((resetBit 5 (.reg .e) s).chargeExtended 0xAB)

/-- R252: RES 5,H, 0xCB 0xAC. -/
def execRes_5_H (s : State) : Result := .next ((resetBit 5 (.reg .h) s).chargeExtended 0xAC)

/-- R252: RES 5,L, 0xCB 0xAD. -/
def execRes_5_L (s : State) : Result := .next ((resetBit 5 (.reg .l) s).chargeExtended 0xAD)

/-- R252: RES 5,(HL), 0xCB 0xAE. -/
def execRes_5_mHL (s : State) : Result := .next ((resetBit 5 .atHL s).chargeExtended 0xAE)

/-- R252: RES 5,A, 0xCB 0xAF. -/
def execRes_5_A (s : State) : Result := .next ((resetBit 5 (.reg .a) s).chargeExtended 0xAF)

/-- R252: RES 6,B, 0xCB 0xB0. -/
def execRes_6_B (s : State) : Result := .next ((resetBit 6 (.reg .b) s).chargeExtended 0xB0)

/-- R252: RES 6,C, 0xCB 0xB1. -/
def execRes_6_C (s : State) : Result := .next ((resetBit 6 (.reg .c) s).chargeExtended 0xB1)

/-- R252: RES 6,D, 0xCB 0xB2. -/
def execRes_6_D (s : State) : Result := .next ((resetBit 6 (.reg .d) s).chargeExtended 0xB2)

/-- R252: RES 6,E, 0xCB 0xB3. -/
def execRes_6_E (s : State) : Result := .next ((resetBit 6 (.reg .e) s).chargeExtended 0xB3)

/-- R252: RES 6,H, 0xCB 0xB4. -/
def execRes_6_H (s : State) : Result := .next ((resetBit 6 (.reg .h) s).chargeExtended 0xB4)

/-- R252: RES 6,L, 0xCB 0xB5. -/
def execRes_6_L (s : State) : Result := .next ((resetBit 6 (.reg .l) s).chargeExtended 0xB5)

/-- R252: RES 6,(HL), 0xCB 0xB6. -/
def execRes_6_mHL (s : State) : Result := .next ((resetBit 6 .atHL s).chargeExtended 0xB6)

/-- R252: RES 6,A, 0xCB 0xB7. -/
def execRes_6_A (s : State) : Result := .next ((resetBit 6 (.reg .a) s).chargeExtended 0xB7)

/-- R252: RES 7,B, 0xCB 0xB8. -/
def execRes_7_B (s : State) : Result := .next ((resetBit 7 (.reg .b) s).chargeExtended 0xB8)

/-- R252: RES 7,C, 0xCB 0xB9. -/
def execRes_7_C (s : State) : Result := .next ((resetBit 7 (.reg .c) s).chargeExtended 0xB9)

/-- R252: RES 7,D, 0xCB 0xBA. -/
def execRes_7_D (s : State) : Result := .next ((resetBit 7 (.reg .d) s).chargeExtended 0xBA)

/-- R252: RES 7,E, 0xCB 0xBB. -/
def execRes_7_E (s : State) : Result := .next ((resetBit 7 (.reg .e) s).chargeExtended 0xBB)

/-- R252: RES 7,H, 0xCB 0xBC. -/
def execRes_7_H (s : State) : Result := .next ((resetBit 7 (.reg .h) s).chargeExtended 0xBC)

/-- R252: RES 7,L, 0xCB 0xBD. -/
def execRes_7_L (s : State) : Result := .next ((resetBit 7 (.reg .l) s).chargeExtended 0xBD)

/-- R252: RES 7,(HL), 0xCB 0xBE. -/
def execRes_7_mHL (s : State) : Result := .next ((resetBit 7 .atHL s).chargeExtended 0xBE)

/-- R252: RES 7,A, 0xCB 0xBF. -/
def execRes_7_A (s : State) : Result := .next ((resetBit 7 (.reg .a) s).chargeExtended 0xBF)

/-- R253: SET 0,B, 0xCB 0xC0. -/
def execSet_0_B (s : State) : Result := .next ((setBit 0 (.reg .b) s).chargeExtended 0xC0)

/-- R253: SET 0,C, 0xCB 0xC1. -/
def execSet_0_C (s : State) : Result := .next ((setBit 0 (.reg .c) s).chargeExtended 0xC1)

/-- R253: SET 0,D, 0xCB 0xC2. -/
def execSet_0_D (s : State) : Result := .next ((setBit 0 (.reg .d) s).chargeExtended 0xC2)

/-- R253: SET 0,E, 0xCB 0xC3. -/
def execSet_0_E (s : State) : Result := .next ((setBit 0 (.reg .e) s).chargeExtended 0xC3)

/-- R253: SET 0,H, 0xCB 0xC4. -/
def execSet_0_H (s : State) : Result := .next ((setBit 0 (.reg .h) s).chargeExtended 0xC4)

/-- R253: SET 0,L, 0xCB 0xC5. -/
def execSet_0_L (s : State) : Result := .next ((setBit 0 (.reg .l) s).chargeExtended 0xC5)

/-- R253: SET 0,(HL), 0xCB 0xC6. -/
def execSet_0_mHL (s : State) : Result := .next ((setBit 0 .atHL s).chargeExtended 0xC6)

/-- R253: SET 0,A, 0xCB 0xC7. -/
def execSet_0_A (s : State) : Result := .next ((setBit 0 (.reg .a) s).chargeExtended 0xC7)

/-- R253: SET 1,B, 0xCB 0xC8. -/
def execSet_1_B (s : State) : Result := .next ((setBit 1 (.reg .b) s).chargeExtended 0xC8)

/-- R253: SET 1,C, 0xCB 0xC9. -/
def execSet_1_C (s : State) : Result := .next ((setBit 1 (.reg .c) s).chargeExtended 0xC9)

/-- R253: SET 1,D, 0xCB 0xCA. -/
def execSet_1_D (s : State) : Result := .next ((setBit 1 (.reg .d) s).chargeExtended 0xCA)

/-- R253: SET 1,E, 0xCB 0xCB. -/
def execSet_1_E (s : State) : Result := .next ((setBit 1 (.reg .e) s).chargeExtended 0xCB)

/-- R253: SET 1,H, 0xCB 0xCC. -/
def execSet_1_H (s : State) : Result := .next ((setBit 1 (.reg .h) s).chargeExtended 0xCC)

/-- R253: SET 1,L, 0xCB 0xCD. -/
def execSet_1_L (s : State) : Result := .next ((setBit 1 (.reg .l) s).chargeExtended 0xCD)

/-- R253: SET 1,(HL), 0xCB 0xCE. -/
def execSet_1_mHL (s : State) : Result := .next ((setBit 1 .atHL s).chargeExtended 0xCE)

/-- R253: SET 1,A, 0xCB 0xCF. -/
def execSet_1_A (s : State) : Result := .next ((setBit 1 (.reg .a) s).chargeExtended 0xCF)

/-- R253: SET 2,B, 0xCB 0xD0. -/
def execSet_2_B (s : State) : Result := .next ((setBit 2 (.reg .b) s).chargeExtended 0xD0)

/-- R253: SET 2,C, 0xCB 0xD1. -/
def execSet_2_C (s : State) : Result := .next ((setBit 2 (.reg .c) s).chargeExtended 0xD1)

/-- R253: SET 2,D, 0xCB 0xD2. -/
def execSet_2_D (s : State) : Result := .next ((setBit 2 (.reg .d) s).chargeExtended 0xD2)

/-- R253: SET 2,E, 0xCB 0xD3. -/
def execSet_2_E (s : State) : Result := .next ((setBit 2 (.reg .e) s).chargeExtended 0xD3)

/-- R253: SET 2,H, 0xCB 0xD4. -/
def execSet_2_H (s : State) : Result := .next ((setBit 2 (.reg .h) s).chargeExtended 0xD4)

/-- R253: SET 2,L, 0xCB 0xD5. -/
def execSet_2_L (s : State) : Result := .next ((setBit 2 (.reg .l) s).chargeExtended 0xD5)

/-- R253: SET 2,(HL), 0xCB 0xD6. -/
def execSet_2_mHL (s : State) : Result := .next ((setBit 2 .atHL s).chargeExtended 0xD6)

/-- R253: SET 2,A, 0xCB 0xD7. -/
def execSet_2_A (s : State) : Result := .next ((setBit 2 (.reg .a) s).chargeExtended 0xD7)

/-- R253: SET 3,B, 0xCB 0xD8. -/
def execSet_3_B (s : State) : Result := .next ((setBit 3 (.reg .b) s).chargeExtended 0xD8)

/-- R253: SET 3,C, 0xCB 0xD9. -/
def execSet_3_C (s : State) : Result := .next ((setBit 3 (.reg .c) s).chargeExtended 0xD9)

/-- R253: SET 3,D, 0xCB 0xDA. -/
def execSet_3_D (s : State) : Result := .next ((setBit 3 (.reg .d) s).chargeExtended 0xDA)

/-- R253: SET 3,E, 0xCB 0xDB. -/
def execSet_3_E (s : State) : Result := .next ((setBit 3 (.reg .e) s).chargeExtended 0xDB)

/-- R253: SET 3,H, 0xCB 0xDC. -/
def execSet_3_H (s : State) : Result := .next ((setBit 3 (.reg .h) s).chargeExtended 0xDC)

/-- R253: SET 3,L, 0xCB 0xDD. -/
def execSet_3_L (s : State) : Result := .next ((setBit 3 (.reg .l) s).chargeExtended 0xDD)

/-- R253: SET 3,(HL), 0xCB 0xDE. -/
def execSet_3_mHL (s : State) : Result := .next ((setBit 3 .atHL s).chargeExtended 0xDE)

/-- R253: SET 3,A, 0xCB 0xDF. -/
def execSet_3_A (s : State) : Result := .next ((setBit 3 (.reg .a) s).chargeExtended 0xDF)

/-- R253: SET 4,B, 0xCB 0xE0. -/
def execSet_4_B (s : State) : Result := .next ((setBit 4 (.reg .b) s).chargeExtended 0xE0)

/-- R253: SET 4,C, 0xCB 0xE1. -/
def execSet_4_C (s : State) : Result := .next ((setBit 4 (.reg .c) s).chargeExtended 0xE1)

/-- R253: SET 4,D, 0xCB 0xE2. -/
def execSet_4_D (s : State) : Result := .next ((setBit 4 (.reg .d) s).chargeExtended 0xE2)

/-- R253: SET 4,E, 0xCB 0xE3. -/
def execSet_4_E (s : State) : Result := .next ((setBit 4 (.reg .e) s).chargeExtended 0xE3)

/-- R253: SET 4,H, 0xCB 0xE4. -/
def execSet_4_H (s : State) : Result := .next ((setBit 4 (.reg .h) s).chargeExtended 0xE4)

/-- R253: SET 4,L, 0xCB 0xE5. -/
def execSet_4_L (s : State) : Result := .next ((setBit 4 (.reg .l) s).chargeExtended 0xE5)

/-- R253: SET 4,(HL), 0xCB 0xE6. -/
def execSet_4_mHL (s : State) : Result := .next ((setBit 4 .atHL s).chargeExtended 0xE6)

/-- R253: SET 4,A, 0xCB 0xE7. -/
def execSet_4_A (s : State) : Result := .next ((setBit 4 (.reg .a) s).chargeExtended 0xE7)

/-- R253: SET 5,B, 0xCB 0xE8. -/
def execSet_5_B (s : State) : Result := .next ((setBit 5 (.reg .b) s).chargeExtended 0xE8)

/-- R253: SET 5,C, 0xCB 0xE9. -/
def execSet_5_C (s : State) : Result := .next ((setBit 5 (.reg .c) s).chargeExtended 0xE9)

/-- R253: SET 5,D, 0xCB 0xEA. -/
def execSet_5_D (s : State) : Result := .next ((setBit 5 (.reg .d) s).chargeExtended 0xEA)

/-- R253: SET 5,E, 0xCB 0xEB. -/
def execSet_5_E (s : State) : Result := .next ((setBit 5 (.reg .e) s).chargeExtended 0xEB)

/-- R253: SET 5,H, 0xCB 0xEC. -/
def execSet_5_H (s : State) : Result := .next ((setBit 5 (.reg .h) s).chargeExtended 0xEC)

/-- R253: SET 5,L, 0xCB 0xED. -/
def execSet_5_L (s : State) : Result := .next ((setBit 5 (.reg .l) s).chargeExtended 0xED)

/-- R253: SET 5,(HL), 0xCB 0xEE. -/
def execSet_5_mHL (s : State) : Result := .next ((setBit 5 .atHL s).chargeExtended 0xEE)

/-- R253: SET 5,A, 0xCB 0xEF. -/
def execSet_5_A (s : State) : Result := .next ((setBit 5 (.reg .a) s).chargeExtended 0xEF)

/-- R253: SET 6,B, 0xCB 0xF0. -/
def execSet_6_B (s : State) : Result := .next ((setBit 6 (.reg .b) s).chargeExtended 0xF0)

/-- R253: SET 6,C, 0xCB 0xF1. -/
def execSet_6_C (s : State) : Result := .next ((setBit 6 (.reg .c) s).chargeExtended 0xF1)

/-- R253: SET 6,D, 0xCB 0xF2. -/
def execSet_6_D (s : State) : Result := .next ((setBit 6 (.reg .d) s).chargeExtended 0xF2)

/-- R253: SET 6,E, 0xCB 0xF3. -/
def execSet_6_E (s : State) : Result := .next ((setBit 6 (.reg .e) s).chargeExtended 0xF3)

/-- R253: SET 6,H, 0xCB 0xF4. -/
def execSet_6_H (s : State) : Result := .next ((setBit 6 (.reg .h) s).chargeExtended 0xF4)

/-- R253: SET 6,L, 0xCB 0xF5. -/
def execSet_6_L (s : State) : Result := .next ((setBit 6 (.reg .l) s).chargeExtended 0xF5)

/-- R253: SET 6,(HL), 0xCB 0xF6. -/
def execSet_6_mHL (s : State) : Result := .next ((setBit 6 .atHL s).chargeExtended 0xF6)

/-- R253: SET 6,A, 0xCB 0xF7. -/
def execSet_6_A (s : State) : Result := .next ((setBit 6 (.reg .a) s).chargeExtended 0xF7)

/-- R253: SET 7,B, 0xCB 0xF8. -/
def execSet_7_B (s : State) : Result := .next ((setBit 7 (.reg .b) s).chargeExtended 0xF8)

/-- R253: SET 7,C, 0xCB 0xF9. -/
def execSet_7_C (s : State) : Result := .next ((setBit 7 (.reg .c) s).chargeExtended 0xF9)

/-- R253: SET 7,D, 0xCB 0xFA. -/
def execSet_7_D (s : State) : Result := .next ((setBit 7 (.reg .d) s).chargeExtended 0xFA)

/-- R253: SET 7,E, 0xCB 0xFB. -/
def execSet_7_E (s : State) : Result := .next ((setBit 7 (.reg .e) s).chargeExtended 0xFB)

/-- R253: SET 7,H, 0xCB 0xFC. -/
def execSet_7_H (s : State) : Result := .next ((setBit 7 (.reg .h) s).chargeExtended 0xFC)

/-- R253: SET 7,L, 0xCB 0xFD. -/
def execSet_7_L (s : State) : Result := .next ((setBit 7 (.reg .l) s).chargeExtended 0xFD)

/-- R253: SET 7,(HL), 0xCB 0xFE. -/
def execSet_7_mHL (s : State) : Result := .next ((setBit 7 .atHL s).chargeExtended 0xFE)

/-- R253: SET 7,A, 0xCB 0xFF. -/
def execSet_7_A (s : State) : Result := .next ((setBit 7 (.reg .a) s).chargeExtended 0xFF)

end Sys2Proof.Machine
end

