-- ==== Sys2Proof/Machine/IncDec.lean ====
section
/-! DEFINITION. Increments and decrements (rules R170 to R175). The 16-bit forms write no flag, the 8-bit forms leave
the carry. -/

namespace Sys2Proof.Machine

/-- R170: xx[p] <- trunc16(xx[p] + 1). -/
def incPair (p : Pair) (s : State) : State := s.setPair p (s.pair p + 1)

/-- R171: xx[p] <- trunc16(xx[p] - 1). -/
def decPair (p : Pair) (s : State) : State := s.setPair p (s.pair p - 1)

/-- R172, R174: the flags of an 8-bit increment of old. -/
def incFlags (old : Byte) (s : State) : State :=
  s.setFlags (old + 1 == 0) false (old.toNat % 16 == 0xF) s.fC (Deferred.ofAdd old 1 false)

/-- R173, R175: the flags of an 8-bit decrement of old. -/
def decFlags (old : Byte) (s : State) : State :=
  s.setFlags (old - 1 == 0) true (old.toNat % 16 == 0x0) s.fC (Deferred.ofSub old 1 false)

/-- R172. -/
def incReg (r : Reg8) (s : State) : State := incFlags (s.reg r) (s.setReg r (s.reg r + 1))

/-- R173. -/
def decReg (r : Reg8) (s : State) : State := decFlags (s.reg r) (s.setReg r (s.reg r - 1))

/-- R174: one read, then one write, both at HL. -/
def incMem (s : State) : State :=
  let old := memRead s.hl s
  incFlags old.1 (memWrite s.hl (old.1 + 1) old.2)

/-- R175: one read, then one write, both at HL. -/
def decMem (s : State) : State :=
  let old := memRead s.hl s
  decFlags old.1 (memWrite s.hl (old.1 - 1) old.2)

/-! ## One meaning for each instruction -/

/-- R170: INC BC, 0x03. -/
def execInc_BC (s : State) : Result := .next ((incPair .bc s).chargeBase 0x03)

/-- R172: INC B, 0x04. -/
def execInc_B (s : State) : Result := .next ((incReg .b s).chargeBase 0x04)

/-- R173: DEC B, 0x05. -/
def execDec_B (s : State) : Result := .next ((decReg .b s).chargeBase 0x05)

/-- R171: DEC BC, 0x0B. -/
def execDec_BC (s : State) : Result := .next ((decPair .bc s).chargeBase 0x0B)

/-- R172: INC C, 0x0C. -/
def execInc_C (s : State) : Result := .next ((incReg .c s).chargeBase 0x0C)

/-- R173: DEC C, 0x0D. -/
def execDec_C (s : State) : Result := .next ((decReg .c s).chargeBase 0x0D)

/-- R170: INC DE, 0x13. -/
def execInc_DE (s : State) : Result := .next ((incPair .de s).chargeBase 0x13)

/-- R172: INC D, 0x14. -/
def execInc_D (s : State) : Result := .next ((incReg .d s).chargeBase 0x14)

/-- R173: DEC D, 0x15. -/
def execDec_D (s : State) : Result := .next ((decReg .d s).chargeBase 0x15)

/-- R171: DEC DE, 0x1B. -/
def execDec_DE (s : State) : Result := .next ((decPair .de s).chargeBase 0x1B)

/-- R172: INC E, 0x1C. -/
def execInc_E (s : State) : Result := .next ((incReg .e s).chargeBase 0x1C)

/-- R173: DEC E, 0x1D. -/
def execDec_E (s : State) : Result := .next ((decReg .e s).chargeBase 0x1D)

/-- R170: INC HL, 0x23. -/
def execInc_HL (s : State) : Result := .next ((incPair .hl s).chargeBase 0x23)

/-- R172: INC H, 0x24. -/
def execInc_H (s : State) : Result := .next ((incReg .h s).chargeBase 0x24)

/-- R173: DEC H, 0x25. -/
def execDec_H (s : State) : Result := .next ((decReg .h s).chargeBase 0x25)

/-- R171: DEC HL, 0x2B. -/
def execDec_HL (s : State) : Result := .next ((decPair .hl s).chargeBase 0x2B)

/-- R172: INC L, 0x2C. -/
def execInc_L (s : State) : Result := .next ((incReg .l s).chargeBase 0x2C)

/-- R173: DEC L, 0x2D. -/
def execDec_L (s : State) : Result := .next ((decReg .l s).chargeBase 0x2D)

/-- R170: INC SP, 0x33. -/
def execInc_SP (s : State) : Result := .next ((incPair .sp s).chargeBase 0x33)

/-- R174: INC (HL), 0x34. -/
def execInc_mHL (s : State) : Result := .next ((incMem s).chargeBase 0x34)

/-- R175: DEC (HL), 0x35. -/
def execDec_mHL (s : State) : Result := .next ((decMem s).chargeBase 0x35)

/-- R171: DEC SP, 0x3B. -/
def execDec_SP (s : State) : Result := .next ((decPair .sp s).chargeBase 0x3B)

/-- R172: INC A, 0x3C. -/
def execInc_A (s : State) : Result := .next ((incReg .a s).chargeBase 0x3C)

/-- R173: DEC A, 0x3D. -/
def execDec_A (s : State) : Result := .next ((decReg .a s).chargeBase 0x3D)

end Sys2Proof.Machine
end

