-- ==== Sys2Proof/Machine/Loads16.lean ====
section
/-! DEFINITION. The 16-bit loads (rules R160 to R163). -/

namespace Sys2Proof.Machine

/-- R160: xx[p] <- d16. -/
def loadPair (p : Pair) (d16 : Word) (s : State) : State := s.setPair p d16

/-- R161: lo(SP) to a16, then hi(SP) to trunc16(a16 + 1). -/
def storeSP (a16 : Word) (s : State) : State := memWrite16 a16 s.sp s

/-- R162: SP <- HL. -/
def copyHLtoSP (s : State) : State := { s with sp := s.hl }

/-- R163: HL <- trunc16(SP + sext_16(e)), with H and C from the unsigned addition to the low byte of SP. -/
def loadHLfromSP (e : Byte) (s : State) : State :=
  (s.setFlags false false (halfSPe s.sp e) (carrySPe s.sp e) (Deferred.ofAdd (lo s.sp) e false)).setHL
    (displaced s.sp e)

/-! ## One meaning for each instruction -/

/-- R160: LD BC,d16, 0x01. -/
def execLd_BC_d16 (d16 : Word) (s : State) : Result := .next ((loadPair .bc d16 s).chargeBase 0x01)

/-- R161: LD (a16),SP, 0x08. -/
def execLd_mA16_SP (a16 : Word) (s : State) : Result := .next ((storeSP a16 s).chargeBase 0x08)

/-- R160: LD DE,d16, 0x11. -/
def execLd_DE_d16 (d16 : Word) (s : State) : Result := .next ((loadPair .de d16 s).chargeBase 0x11)

/-- R160: LD HL,d16, 0x21. -/
def execLd_HL_d16 (d16 : Word) (s : State) : Result := .next ((loadPair .hl d16 s).chargeBase 0x21)

/-- R160: LD SP,d16, 0x31. -/
def execLd_SP_d16 (d16 : Word) (s : State) : Result := .next ((loadPair .sp d16 s).chargeBase 0x31)

/-- R163: LD HL,SP+e, 0xF8. -/
def execLd_HL_SPe (e : Byte) (s : State) : Result := .next ((loadHLfromSP e s).chargeBase 0xF8)

/-- R162: LD SP,HL, 0xF9. -/
def execLd_SP_HL (s : State) : Result := .next ((copyHLtoSP s).chargeBase 0xF9)

end Sys2Proof.Machine
end

