-- ==== Sys2Proof/Machine/Loads8.lean ====
section
/-! DEFINITION. The 8-bit loads and stores (rules R130 to R148). They write no flag. -/

namespace Sys2Proof.Machine

/-- R130: x[y] <- x[z]. -/
def copyReg (dst r : Reg8) (s : State) : State := s.setReg dst (s.reg r)

/-- R131: x[y] <- MemRead(HL, 1), the address formed from the old HL. -/
def loadMem (dst : Reg8) (s : State) : State :=
  let v := memRead s.hl s
  v.2.setReg dst v.1

/-- R132: MemWrite(HL, 1, x[z]). -/
def storeReg (r : Reg8) (s : State) : State := memWrite s.hl (s.reg r) s

/-- R133: x[y] <- d8. -/
def loadImm (dst : Reg8) (d8 : Byte) (s : State) : State := s.setReg dst d8

/-- R134: MemWrite(HL, 1, d8). -/
def storeImm (d8 : Byte) (s : State) : State := memWrite s.hl d8 s

/-- R135, R136, R143, R145, R147: A <- MemRead(addr, 1). -/
def loadA (addr : Word) (s : State) : State :=
  let v := memRead addr s
  { v.2 with a := v.1 }

/-- R137, R138, R144, R146, R148: MemWrite(addr, 1, A). -/
def storeA (addr : Word) (s : State) : State := memWrite addr s.a s

/-- R139, R140: A <- MemRead(HL, 1), then HL <- trunc16(HL + delta). -/
def loadAThenHL (delta : Word) (s : State) : State :=
  let v := memRead s.hl s
  { v.2 with a := v.1 }.setHL (s.hl + delta)

/-- R141, R142: MemWrite(HL, 1, A), then HL <- trunc16(HL + delta). -/
def storeAThenHL (delta : Word) (s : State) : State :=
  (memWrite s.hl s.a s).setHL (s.hl + delta)

/-! ## One meaning for each instruction -/

/-- R137: LD (BC),A, 0x02. -/
def execLd_mBC_A (s : State) : Result := .next ((storeA s.bc s).chargeBase 0x02)

/-- R133: LD B,d8, 0x06. -/
def execLd_B_d8 (d8 : Byte) (s : State) : Result := .next ((loadImm .b d8 s).chargeBase 0x06)

/-- R135: LD A,(BC), 0x0A. -/
def execLd_A_mBC (s : State) : Result := .next ((loadA s.bc s).chargeBase 0x0A)

/-- R133: LD C,d8, 0x0E. -/
def execLd_C_d8 (d8 : Byte) (s : State) : Result := .next ((loadImm .c d8 s).chargeBase 0x0E)

/-- R138: LD (DE),A, 0x12. -/
def execLd_mDE_A (s : State) : Result := .next ((storeA s.de s).chargeBase 0x12)

/-- R133: LD D,d8, 0x16. -/
def execLd_D_d8 (d8 : Byte) (s : State) : Result := .next ((loadImm .d d8 s).chargeBase 0x16)

/-- R136: LD A,(DE), 0x1A. -/
def execLd_A_mDE (s : State) : Result := .next ((loadA s.de s).chargeBase 0x1A)

/-- R133: LD E,d8, 0x1E. -/
def execLd_E_d8 (d8 : Byte) (s : State) : Result := .next ((loadImm .e d8 s).chargeBase 0x1E)

/-- R141: LD (HL+),A, 0x22. -/
def execLd_mHLI_A (s : State) : Result := .next ((storeAThenHL 1 s).chargeBase 0x22)

/-- R133: LD H,d8, 0x26. -/
def execLd_H_d8 (d8 : Byte) (s : State) : Result := .next ((loadImm .h d8 s).chargeBase 0x26)

/-- R139: LD A,(HL+), 0x2A. -/
def execLd_A_mHLI (s : State) : Result := .next ((loadAThenHL 1 s).chargeBase 0x2A)

/-- R133: LD L,d8, 0x2E. -/
def execLd_L_d8 (d8 : Byte) (s : State) : Result := .next ((loadImm .l d8 s).chargeBase 0x2E)

/-- R142: LD (HL-),A, 0x32. -/
def execLd_mHLD_A (s : State) : Result := .next ((storeAThenHL (-1) s).chargeBase 0x32)

/-- R134: LD (HL),d8, 0x36. -/
def execLd_mHL_d8 (d8 : Byte) (s : State) : Result := .next ((storeImm d8 s).chargeBase 0x36)

/-- R140: LD A,(HL-), 0x3A. -/
def execLd_A_mHLD (s : State) : Result := .next ((loadAThenHL (-1) s).chargeBase 0x3A)

/-- R133: LD A,d8, 0x3E. -/
def execLd_A_d8 (d8 : Byte) (s : State) : Result := .next ((loadImm .a d8 s).chargeBase 0x3E)

/-- R130: LD B,B, 0x40. -/
def execLd_B_B (s : State) : Result := .next ((copyReg .b .b s).chargeBase 0x40)

/-- R130: LD B,C, 0x41. -/
def execLd_B_C (s : State) : Result := .next ((copyReg .b .c s).chargeBase 0x41)

/-- R130: LD B,D, 0x42. -/
def execLd_B_D (s : State) : Result := .next ((copyReg .b .d s).chargeBase 0x42)

/-- R130: LD B,E, 0x43. -/
def execLd_B_E (s : State) : Result := .next ((copyReg .b .e s).chargeBase 0x43)

/-- R130: LD B,H, 0x44. -/
def execLd_B_H (s : State) : Result := .next ((copyReg .b .h s).chargeBase 0x44)

/-- R130: LD B,L, 0x45. -/
def execLd_B_L (s : State) : Result := .next ((copyReg .b .l s).chargeBase 0x45)

/-- R131: LD B,(HL), 0x46. -/
def execLd_B_mHL (s : State) : Result := .next ((loadMem .b s).chargeBase 0x46)

/-- R130: LD B,A, 0x47. -/
def execLd_B_A (s : State) : Result := .next ((copyReg .b .a s).chargeBase 0x47)

/-- R130: LD C,B, 0x48. -/
def execLd_C_B (s : State) : Result := .next ((copyReg .c .b s).chargeBase 0x48)

/-- R130: LD C,C, 0x49. -/
def execLd_C_C (s : State) : Result := .next ((copyReg .c .c s).chargeBase 0x49)

/-- R130: LD C,D, 0x4A. -/
def execLd_C_D (s : State) : Result := .next ((copyReg .c .d s).chargeBase 0x4A)

/-- R130: LD C,E, 0x4B. -/
def execLd_C_E (s : State) : Result := .next ((copyReg .c .e s).chargeBase 0x4B)

/-- R130: LD C,H, 0x4C. -/
def execLd_C_H (s : State) : Result := .next ((copyReg .c .h s).chargeBase 0x4C)

/-- R130: LD C,L, 0x4D. -/
def execLd_C_L (s : State) : Result := .next ((copyReg .c .l s).chargeBase 0x4D)

/-- R131: LD C,(HL), 0x4E. -/
def execLd_C_mHL (s : State) : Result := .next ((loadMem .c s).chargeBase 0x4E)

/-- R130: LD C,A, 0x4F. -/
def execLd_C_A (s : State) : Result := .next ((copyReg .c .a s).chargeBase 0x4F)

/-- R130: LD D,B, 0x50. -/
def execLd_D_B (s : State) : Result := .next ((copyReg .d .b s).chargeBase 0x50)

/-- R130: LD D,C, 0x51. -/
def execLd_D_C (s : State) : Result := .next ((copyReg .d .c s).chargeBase 0x51)

/-- R130: LD D,D, 0x52. -/
def execLd_D_D (s : State) : Result := .next ((copyReg .d .d s).chargeBase 0x52)

/-- R130: LD D,E, 0x53. -/
def execLd_D_E (s : State) : Result := .next ((copyReg .d .e s).chargeBase 0x53)

/-- R130: LD D,H, 0x54. -/
def execLd_D_H (s : State) : Result := .next ((copyReg .d .h s).chargeBase 0x54)

/-- R130: LD D,L, 0x55. -/
def execLd_D_L (s : State) : Result := .next ((copyReg .d .l s).chargeBase 0x55)

/-- R131: LD D,(HL), 0x56. -/
def execLd_D_mHL (s : State) : Result := .next ((loadMem .d s).chargeBase 0x56)

/-- R130: LD D,A, 0x57. -/
def execLd_D_A (s : State) : Result := .next ((copyReg .d .a s).chargeBase 0x57)

/-- R130: LD E,B, 0x58. -/
def execLd_E_B (s : State) : Result := .next ((copyReg .e .b s).chargeBase 0x58)

/-- R130: LD E,C, 0x59. -/
def execLd_E_C (s : State) : Result := .next ((copyReg .e .c s).chargeBase 0x59)

/-- R130: LD E,D, 0x5A. -/
def execLd_E_D (s : State) : Result := .next ((copyReg .e .d s).chargeBase 0x5A)

/-- R130: LD E,E, 0x5B. -/
def execLd_E_E (s : State) : Result := .next ((copyReg .e .e s).chargeBase 0x5B)

/-- R130: LD E,H, 0x5C. -/
def execLd_E_H (s : State) : Result := .next ((copyReg .e .h s).chargeBase 0x5C)

/-- R130: LD E,L, 0x5D. -/
def execLd_E_L (s : State) : Result := .next ((copyReg .e .l s).chargeBase 0x5D)

/-- R131: LD E,(HL), 0x5E. -/
def execLd_E_mHL (s : State) : Result := .next ((loadMem .e s).chargeBase 0x5E)

/-- R130: LD E,A, 0x5F. -/
def execLd_E_A (s : State) : Result := .next ((copyReg .e .a s).chargeBase 0x5F)

/-- R130: LD H,B, 0x60. -/
def execLd_H_B (s : State) : Result := .next ((copyReg .h .b s).chargeBase 0x60)

/-- R130: LD H,C, 0x61. -/
def execLd_H_C (s : State) : Result := .next ((copyReg .h .c s).chargeBase 0x61)

/-- R130: LD H,D, 0x62. -/
def execLd_H_D (s : State) : Result := .next ((copyReg .h .d s).chargeBase 0x62)

/-- R130: LD H,E, 0x63. -/
def execLd_H_E (s : State) : Result := .next ((copyReg .h .e s).chargeBase 0x63)

/-- R130: LD H,H, 0x64. -/
def execLd_H_H (s : State) : Result := .next ((copyReg .h .h s).chargeBase 0x64)

/-- R130: LD H,L, 0x65. -/
def execLd_H_L (s : State) : Result := .next ((copyReg .h .l s).chargeBase 0x65)

/-- R131: LD H,(HL), 0x66. -/
def execLd_H_mHL (s : State) : Result := .next ((loadMem .h s).chargeBase 0x66)

/-- R130: LD H,A, 0x67. -/
def execLd_H_A (s : State) : Result := .next ((copyReg .h .a s).chargeBase 0x67)

/-- R130: LD L,B, 0x68. -/
def execLd_L_B (s : State) : Result := .next ((copyReg .l .b s).chargeBase 0x68)

/-- R130: LD L,C, 0x69. -/
def execLd_L_C (s : State) : Result := .next ((copyReg .l .c s).chargeBase 0x69)

/-- R130: LD L,D, 0x6A. -/
def execLd_L_D (s : State) : Result := .next ((copyReg .l .d s).chargeBase 0x6A)

/-- R130: LD L,E, 0x6B. -/
def execLd_L_E (s : State) : Result := .next ((copyReg .l .e s).chargeBase 0x6B)

/-- R130: LD L,H, 0x6C. -/
def execLd_L_H (s : State) : Result := .next ((copyReg .l .h s).chargeBase 0x6C)

/-- R130: LD L,L, 0x6D. -/
def execLd_L_L (s : State) : Result := .next ((copyReg .l .l s).chargeBase 0x6D)

/-- R131: LD L,(HL), 0x6E. -/
def execLd_L_mHL (s : State) : Result := .next ((loadMem .l s).chargeBase 0x6E)

/-- R130: LD L,A, 0x6F. -/
def execLd_L_A (s : State) : Result := .next ((copyReg .l .a s).chargeBase 0x6F)

/-- R132: LD (HL),B, 0x70. -/
def execLd_mHL_B (s : State) : Result := .next ((storeReg .b s).chargeBase 0x70)

/-- R132: LD (HL),C, 0x71. -/
def execLd_mHL_C (s : State) : Result := .next ((storeReg .c s).chargeBase 0x71)

/-- R132: LD (HL),D, 0x72. -/
def execLd_mHL_D (s : State) : Result := .next ((storeReg .d s).chargeBase 0x72)

/-- R132: LD (HL),E, 0x73. -/
def execLd_mHL_E (s : State) : Result := .next ((storeReg .e s).chargeBase 0x73)

/-- R132: LD (HL),H, 0x74. -/
def execLd_mHL_H (s : State) : Result := .next ((storeReg .h s).chargeBase 0x74)

/-- R132: LD (HL),L, 0x75. -/
def execLd_mHL_L (s : State) : Result := .next ((storeReg .l s).chargeBase 0x75)

/-- R132: LD (HL),A, 0x77. -/
def execLd_mHL_A (s : State) : Result := .next ((storeReg .a s).chargeBase 0x77)

/-- R130: LD A,B, 0x78. -/
def execLd_A_B (s : State) : Result := .next ((copyReg .a .b s).chargeBase 0x78)

/-- R130: LD A,C, 0x79. -/
def execLd_A_C (s : State) : Result := .next ((copyReg .a .c s).chargeBase 0x79)

/-- R130: LD A,D, 0x7A. -/
def execLd_A_D (s : State) : Result := .next ((copyReg .a .d s).chargeBase 0x7A)

/-- R130: LD A,E, 0x7B. -/
def execLd_A_E (s : State) : Result := .next ((copyReg .a .e s).chargeBase 0x7B)

/-- R130: LD A,H, 0x7C. -/
def execLd_A_H (s : State) : Result := .next ((copyReg .a .h s).chargeBase 0x7C)

/-- R130: LD A,L, 0x7D. -/
def execLd_A_L (s : State) : Result := .next ((copyReg .a .l s).chargeBase 0x7D)

/-- R131: LD A,(HL), 0x7E. -/
def execLd_A_mHL (s : State) : Result := .next ((loadMem .a s).chargeBase 0x7E)

/-- R130: LD A,A, 0x7F. -/
def execLd_A_A (s : State) : Result := .next ((copyReg .a .a s).chargeBase 0x7F)

/-- R146: LDH (a8),A, 0xE0. -/
def execLdh_mA8_A (a8 : Byte) (s : State) : Result := .next ((storeA (highPageAddr a8) s).chargeBase 0xE0)

/-- R148: LD (C),A, 0xE2. -/
def execLd_mC_A (s : State) : Result := .next ((storeA (highPageAddr s.c) s).chargeBase 0xE2)

/-- R144: LD (a16),A, 0xEA. -/
def execLd_mA16_A (a16 : Word) (s : State) : Result := .next ((storeA a16 s).chargeBase 0xEA)

/-- R145: LDH A,(a8), 0xF0. -/
def execLdh_A_mA8 (a8 : Byte) (s : State) : Result := .next ((loadA (highPageAddr a8) s).chargeBase 0xF0)

/-- R147: LD A,(C), 0xF2. -/
def execLd_A_mC (s : State) : Result := .next ((loadA (highPageAddr s.c) s).chargeBase 0xF2)

/-- R143: LD A,(a16), 0xFA. -/
def execLd_A_mA16 (a16 : Word) (s : State) : Result := .next ((loadA a16 s).chargeBase 0xFA)

end Sys2Proof.Machine
end

