-- ==== Sys2Proof/Machine/Special.lean ====
section
/-! DEFINITION. One-byte specials and unassigned codes (rules R260 to R274). -/

namespace Sys2Proof.Machine

/-- R260 to R263: the accumulator rotates; Z is forced to 0. -/
def rotateA (op : RotOp) (s : State) : State :=
  let r := rotateResult op s.a s.fC
  { s.setConstFlags false false false r.2 with a := r.1 }

/-- R264: DAA; Z from the adjusted A, N kept, H cleared, C as returned. -/
def decimalAdjustA (s : State) : State :=
  let r := decimalAdjust s.fN s.fH s.fC s.a
  { s.setConstFlags (r.1 == 0) s.fN false r.2 with a := r.1 }

/-- R265: CPL; N and H are set, Z and C are kept. -/
def complementA (s : State) : State :=
  { s.setConstFlags s.fZ true true s.fC with a := s.a ^^^ 0xFF }

/-- R266: SCF; N and H are cleared, Z is kept. -/
def setCarry (s : State) : State := s.setConstFlags s.fZ false false true

/-- R267: CCF; N and H are cleared, Z is kept. -/
def complementCarry (s : State) : State := s.setConstFlags s.fZ false false (!s.fC)

/-- R268: IME <- 0, at once. -/
def disableInterrupts (s : State) : State := { s with ime := false }

/-- R269: IME <- 1, at once. -/
def enableInterrupts (s : State) : State := { s with ime := true }

/-- R270: halted <- 1 and nothing else. -/
def halt (s : State) : State := { s with halted := true }

/-- R272, R273: no effect. -/
def noEffect (s : State) : State := s

/-- R274: report InvalidOpcode with the opcode as detail; otherwise without effect. -/
def invalidOpcode (op : Byte) (s : State) : State :=
  s.report .invalidOpcode (zext16 op)

/-! ## One meaning for each instruction -/

/-- R273: NOP, 0x00. -/
def execNop (s : State) : Result := .next ((noEffect s).chargeBase 0x00)

/-- R260: RLCA, 0x07. -/
def execRlca (s : State) : Result := .next ((rotateA .rlc s).chargeBase 0x07)

/-- R261: RRCA, 0x0F. -/
def execRrca (s : State) : Result := .next ((rotateA .rrc s).chargeBase 0x0F)

/-- R272: STOP, 0x10. -/
def execStop (s : State) : Result := .next ((noEffect s).chargeBase 0x10)

/-- R262: RLA, 0x17. -/
def execRla (s : State) : Result := .next ((rotateA .rl s).chargeBase 0x17)

/-- R263: RRA, 0x1F. -/
def execRra (s : State) : Result := .next ((rotateA .rr s).chargeBase 0x1F)

/-- R264: DAA, 0x27. -/
def execDaa (s : State) : Result := .next ((decimalAdjustA s).chargeBase 0x27)

/-- R265: CPL, 0x2F. -/
def execCpl (s : State) : Result := .next ((complementA s).chargeBase 0x2F)

/-- R266: SCF, 0x37. -/
def execScf (s : State) : Result := .next ((setCarry s).chargeBase 0x37)

/-- R267: CCF, 0x3F. -/
def execCcf (s : State) : Result := .next ((complementCarry s).chargeBase 0x3F)

/-- R270: HALT, 0x76. -/
def execHalt (s : State) : Result := .next ((halt s).chargeBase 0x76)

/-- R274: unassigned code, 0xD3. -/
def execInvalid_D3 (s : State) : Result := .next ((invalidOpcode 0xD3 s).chargeBase 0xD3)

/-- R274: unassigned code, 0xDB. -/
def execInvalid_DB (s : State) : Result := .next ((invalidOpcode 0xDB s).chargeBase 0xDB)

/-- R274: unassigned code, 0xDD. -/
def execInvalid_DD (s : State) : Result := .next ((invalidOpcode 0xDD s).chargeBase 0xDD)

/-- R274: unassigned code, 0xE3. -/
def execInvalid_E3 (s : State) : Result := .next ((invalidOpcode 0xE3 s).chargeBase 0xE3)

/-- R274: unassigned code, 0xE4. -/
def execInvalid_E4 (s : State) : Result := .next ((invalidOpcode 0xE4 s).chargeBase 0xE4)

/-- R274: unassigned code, 0xEB. -/
def execInvalid_EB (s : State) : Result := .next ((invalidOpcode 0xEB s).chargeBase 0xEB)

/-- R274: unassigned code, 0xEC. -/
def execInvalid_EC (s : State) : Result := .next ((invalidOpcode 0xEC s).chargeBase 0xEC)

/-- R274: unassigned code, 0xED. -/
def execInvalid_ED (s : State) : Result := .next ((invalidOpcode 0xED s).chargeBase 0xED)

/-- R268: DI, 0xF3. -/
def execDi (s : State) : Result := .next ((disableInterrupts s).chargeBase 0xF3)

/-- R274: unassigned code, 0xF4. -/
def execInvalid_F4 (s : State) : Result := .next ((invalidOpcode 0xF4 s).chargeBase 0xF4)

/-- R269: EI, 0xFB. -/
def execEi (s : State) : Result := .next ((enableInterrupts s).chargeBase 0xFB)

/-- R274: unassigned code, 0xFC. -/
def execInvalid_FC (s : State) : Result := .next ((invalidOpcode 0xFC s).chargeBase 0xFC)

/-- R274: unassigned code, 0xFD. -/
def execInvalid_FD (s : State) : Result := .next ((invalidOpcode 0xFD s).chargeBase 0xFD)

end Sys2Proof.Machine
end

