-- ==== Sys2Proof/Machine/Stack.lean ====
section
/-! DEFINITION. PUSH and POP (rules R232 to R235). -/

namespace Sys2Proof.Machine

/-- R232, R234: Push16(xs[p]), where AF is A ++ PackFlags(). -/
def pushPair (p : StackPair) (s : State) : State := push16 (s.stackPair p) s

/-- R233, R235: xs[p] <- Pop16(), where AF unpacks the flags. -/
def popPair (p : StackPair) (s : State) : State :=
  let r := pop16 s
  r.2.setStackPair p r.1

/-! ## One meaning for each instruction -/

/-- R233: POP BC, 0xC1. -/
def execPop_BC (s : State) : Result := .next ((popPair .bc s).chargeBase 0xC1)

/-- R232: PUSH BC, 0xC5. -/
def execPush_BC (s : State) : Result := .next ((pushPair .bc s).chargeBase 0xC5)

/-- R233: POP DE, 0xD1. -/
def execPop_DE (s : State) : Result := .next ((popPair .de s).chargeBase 0xD1)

/-- R232: PUSH DE, 0xD5. -/
def execPush_DE (s : State) : Result := .next ((pushPair .de s).chargeBase 0xD5)

/-- R233: POP HL, 0xE1. -/
def execPop_HL (s : State) : Result := .next ((popPair .hl s).chargeBase 0xE1)

/-- R232: PUSH HL, 0xE5. -/
def execPush_HL (s : State) : Result := .next ((pushPair .hl s).chargeBase 0xE5)

/-- R235: POP AF, 0xF1. -/
def execPop_AF (s : State) : Result := .next ((popPair .af s).chargeBase 0xF1)

/-- R234: PUSH AF, 0xF5. -/
def execPush_AF (s : State) : Result := .next ((pushPair .af s).chargeBase 0xF5)

end Sys2Proof.Machine
end

