-- ==== Sys2Proof/Machine/Step.lean ====
section
/-! DEFINITION. One step of the machine (rule R298), and storing an instruction where the next step fetches it. -/

namespace Sys2Proof.Machine

/-- R298: the instruction phase of a step that is not halted. -/
def runInstruction (s : State) : Host.Outcome State Fault Refusal :=
  match decode (fetchInstruction s).1 with
  | .ok (i, _) => exec i (fetchInstruction s).2
  | .error _ => .fault .undecodable

/-- R298: execute_one(): the interrupt check, then a halted step (R271) or one instruction. -/
def step (s : State) : Host.Outcome State Fault Refusal :=
  if (serviceInterrupt s.beginStep).halted then .next (haltedStep (serviceInterrupt s.beginStep))
  else runInstruction (serviceInterrupt s.beginStep)

/-- The state in which the next step fetches and runs the instruction of an opcode table's word (log 14): the core runs
and takes no interrupt, and the bytes, with zeros after them up to the longest instruction, stand at PC. -/
def State.withFetchWord (s : State) (nbits w : Nat) : State :=
  s.readyToFetch.storeBytes ((tableBytes nbits w ++ [0x00, 0x00]).take 3) s.pc

end Sys2Proof.Machine
end

