-- ==== Sys2Proof/Machine/Environment.lean ====
section
/-! DEFINITION. What happens between steps: the DBG port (rule R304), reset (R320), the environment's moves (R306), and
the grouping of steps (R331). -/

namespace Sys2Proof.Machine

/-- R14, R304: what the DBG port names. -/
inductive DbgField where
  | a | bc | de | hl | sp | pc | fZ | fN | fH | fC | ime | halted
deriving DecidableEq, Repr

/-- A bit as the port's 16-bit value. -/
def bitWord (b : Bool) : Word := if b then 1 else 0

/-- R304: a read returns the current value. -/
def dbgRead (f : DbgField) (s : State) : Word :=
  match f with
  | .a => zext16 s.a
  | .bc => s.bc
  | .de => s.de
  | .hl => s.hl
  | .sp => s.sp
  | .pc => s.pc
  | .fZ => bitWord s.fZ
  | .fN => bitWord s.fN
  | .fH => bitWord s.fH
  | .fC => bitWord s.fC
  | .ime => bitWord s.ime
  | .halted => bitWord s.halted

/-- R304: a write replaces the field by the value truncated to the field's width; N and H store a canonical row of rule
R47 under lazyNH. -/
def dbgWrite (f : DbgField) (v : Word) (s : State) : State :=
  match f with
  | .a => { s with a := lo v }
  | .bc => s.setBC v
  | .de => s.setDE v
  | .hl => s.setHL v
  | .sp => { s with sp := v }
  | .pc => { s with pc := v }
  | .fZ => { s with fZ := v.getLsbD 0 }
  | .fN => { s with nh := s.nh.write (v.getLsbD 0) s.fH (Deferred.canonical (v.getLsbD 0) s.fH) }
  | .fH => { s with nh := s.nh.write s.fN (v.getLsbD 0) (Deferred.canonical s.fN (v.getLsbD 0)) }
  | .fC => { s with fC := v.getLsbD 0 }
  | .ime => { s with ime := v.getLsbD 0 }
  | .halted => { s with halted := v.getLsbD 0 }

/-- R320: reset replaces the register file by the parameter RESET, of which PC, IME and halted are fixed (R56), and
touches nothing else. -/
def State.applyReset (r : Config.ResetValues) (s : State) : State :=
  { s with
    a := r.a
    b := r.b
    c := r.c
    d := r.d
    e := r.e
    h := r.h
    l := r.l
    sp := r.sp
    pc := Config.resetPC
    fZ := r.fZ
    nh := s.nh.write r.fN r.fH (Deferred.canonical r.fN r.fH)
    fC := r.fC
    ime := false
    halted := false }

/-- R306: what the environment may do between two steps. -/
inductive EnvMove where
  /-- The timing and interrupt subsystem drives the request lines. -/
  | driveRequests (lines : BitVec 5)
  /-- A source raises its request, on the line IRQ_BIT gives it (R17, R287). -/
  | raise (source : IrqSource)
  /-- The interrupt controller's enable lines change. -/
  | driveEnables (lines : BitVec 5)
  /-- A byte behind the bus changes. -/
  | poke (addr : Word) (value : Byte)
  /-- The platform's map changes. -/
  | remap (map : List Region)
  /-- The debugger writes a field of the register file. -/
  | debug (field : DbgField) (value : Word)
  /-- Reset is applied. -/
  | reset (values : Config.ResetValues)
deriving DecidableEq, Repr

/-- R306: the state after a move of the environment. -/
def EnvMove.apply (mv : EnvMove) (s : State) : State :=
  match mv with
  | .driveRequests lines => { s with irqPending := lines }
  | .raise source => { s with irqPending := s.irqPending ||| (1#5 <<< (lineOf s.params source).val) }
  | .driveEnables lines => { s with irqEnabled := lines }
  | .poke addr value => { s with mem := Memory.write s.mem addr.toNat value }
  | .remap map => { s with busMap := map }
  | .debug f v => dbgWrite f v s
  | .reset r => s.applyReset r

/-- R12, R331: execute_batch(n): n steps in sequence, each with its own interrupt check, and the sum of the counts they
return, an unbounded number. -/
def executeBatch : Nat → State → Host.Outcome (Nat × State) Fault Refusal
  | 0, s => .next (0, s)
  | n + 1, s =>
    match step s with
    | .next t =>
      match executeBatch n t with
      | .next (total, u) => .next (t.cycles.toNat + total, u)
      | .fault r => .fault r
      | .refused r => .refused r
    | .fault r => .fault r
    | .refused r => .refused r

/-- R17, R331: the driving loop's customary batch, of BATCH_SIZE steps. -/
def executeCustomaryBatch (s : State) : Host.Outcome (Nat × State) Fault Refusal := executeBatch s.params.batchSize s

end Sys2Proof.Machine
end

