-- ==== Sys2Proof/Safety.lean ====
section
/-! DEFINITION. What claims are stated with: the invariant of the machine, what a state shares with another (the frames),
what an access leaves on the other side of the bus, the abstraction from the deferred to the direct flags (rule R46), and
runs with moves of the environment between steps. -/

namespace Sys2Proof.Machine

/-! ## The invariant -/

/-- R44: the field nh_res is the result of the operation the other fields describe. -/
abbrev Deferred.wf (d : Deferred) : Prop :=
  d.nhRes = if d.nhSub then (sub8 d.nhA d.nhB d.nhCin).res else (add8 d.nhA d.nhB d.nhCin).res

/-- The invariant of the representation of N and H. -/
abbrev NHFlags.wf : NHFlags → Prop
  | .direct _ _ => True
  | .lazyNH d => d.wf

/-- The invariant of the machine: memory is in canonical form, and the deferred flag fields are consistent. -/
structure State.Inv (s : State) : Prop where
  mem : Memory.wf s.mem
  nh : s.nh.wf

/-! ## Frames -/

/-- The seven general registers are those of s, but for the ones listed. -/
def SameRegsBut (changed : List Reg8) (s t : State) : Prop :=
  ∀ r, r ∉ changed → t.reg r = s.reg r

/-- The four flags are those of s, in both representations. -/
def SameFlags (s t : State) : Prop := t.fZ = s.fZ ∧ t.nh = s.nh ∧ t.fC = s.fC

/-- The values of the four flags. -/
def FlagsAre (z n h c : Bool) (t : State) : Prop := t.fZ = z ∧ t.fN = n ∧ t.fH = h ∧ t.fC = c

/-- IME and halted are those of s. -/
def SameModes (s t : State) : Prop := t.ime = s.ime ∧ t.halted = s.halted

/-- Everything on the other side of the ports is as in s: all of memory, its map, the interrupt lines, and no port call
has been made since s. -/
def SameBus (s t : State) : Prop :=
  t.mem = s.mem ∧ t.busMap = s.busMap ∧ t.irqPending = s.irqPending ∧ t.irqEnabled = s.irqEnabled ∧
    t.oracle = s.oracle ∧ t.trace = s.trace

/-- Every byte of memory outside the listed addresses reads as in s. -/
def SameBytesBut (stored : List Word) (s t : State) : Prop :=
  ∀ a, a ∉ stored → t.byteAt a = s.byteAt a

/-- Nothing but the listed registers, the flags and the cycle count differs from s: neither SP, PC, IME, halted nor
anything behind the ports. -/
def OnlyRegs (changed : List Reg8) (s t : State) : Prop :=
  SameRegsBut changed s t ∧ t.sp = s.sp ∧ t.pc = s.pc ∧ SameModes s t ∧ SameBus s t

/-! ## What an access leaves -/

/-- An address whose reads and writes have the effect of memory (R74). -/
abbrev State.isPlain (a : Word) (s : State) : Prop := s.kindAt a = .plain

/-- An address whose reads give what memory holds: plain or read-only. -/
abbrev State.isReadable (a : Word) (s : State) : Prop := s.kindAt a = .plain ∨ s.kindAt a = .readOnly

/-- No address is a device's: every change of the interrupt lines is then the core's own or comes between steps. -/
def State.deviceFree (s : State) : Prop := ∀ a, s.kindAt a ≠ .device

/-- R74, R76: the one port call of MemRead(a, 1) answered with v. -/
def readCall (a : Word) (v : Byte) (s : State) : PortEvent :=
  if s.kindAt a = .unmapped then .report .invalidRead a else .read a v

/-- R75, R77: the one port call of MemWrite(a, 1, v). -/
def writeCall (a : Word) (v : Byte) (s : State) : PortEvent :=
  if s.kindAt a = .unmapped then .report .invalidWrite a else .write a v

/-- What memory holds at a after MemWrite(a, 1, v): v behind a plain address, otherwise what it held. -/
def byteAfterWrite (a : Word) (v : Byte) (s : State) : Byte :=
  if s.kindAt a = .plain then v else s.byteAt a

/-- None of the addresses is a device's, whose accesses may change anything behind the bus (R306). -/
def State.noDevice (accessed : List Word) (s : State) : Prop := ∀ a ∈ accessed, s.kindAt a ≠ .device

/-- What accesses at the listed addresses leave behind the bus: the listed port calls have been made; and, unless a device
is accessed, bytes of memory differ at the stored addresses only, and the map and the interrupt lines are the same. -/
def BusAfter (accessed stored : List Word) (calls : List PortEvent) (s t : State) : Prop :=
  t.trace = s.trace ++ calls ∧
    (s.noDevice accessed → SameBytesBut stored s t ∧ t.busMap = s.busMap ∧ t.irqPending = s.irqPending ∧
      t.irqEnabled = s.irqEnabled ∧ t.oracle = s.oracle)

/-- The stores of the listed bytes at the listed addresses have been made: unless one of them is a device's, a plain
address holds the byte, and a read-only or an unmapped one (log 7, R77) what it held. -/
def StoredBytes (stores : List (Word × Byte)) (s t : State) : Prop :=
  Memory.wf s.mem → s.noDevice (stores.map Prod.fst) → ∀ p ∈ stores, t.byteAt p.1 = byteAfterWrite p.1 p.2 s

/-- The bytes bs stand from address a on (wrapping), each readable. -/
def bytesAt : List Byte → Word → State → Prop
  | [], _, _ => True
  | v :: vs, a, s => s.isReadable a ∧ s.byteAt a = v ∧ bytesAt vs (a + 1) s

/-- The port calls of fetching the bytes bs from address a on. -/
def fetchCalls : List Byte → Word → List PortEvent
  | [], _ => []
  | v :: vs, a => .read a v :: fetchCalls vs (a + 1)

/-! ## The two representations of N and H -/

/-- R46: the direct state a state stands for. -/
def State.toDirect (s : State) : State := { s with nh := .direct s.fN s.fH }

/-- An outcome with its next state replaced. -/
def mapNext (f : State → State) : Result → Result
  | .next s => .next (f s)
  | .fault r => .fault r
  | .refused r => .refused r

/-! ## What the statements compare the instructions with -/

/-- R181 to R188, written over the integers: what the operation makes of A, the second operand and the old carry, as the
new A and the four flags Z, N, H, C. -/
def aluSpec (op : AluOp) (a v : Byte) (c : Bool) : Byte × Bool × Bool × Bool × Bool :=
  match op with
  | .add => (a + v, decide ((a.toNat + v.toNat) % 256 = 0), false, decide (15 < a.toNat % 16 + v.toNat % 16),
      decide (255 < a.toNat + v.toNat))
  | .adc => (a + v + bitByte c, decide ((a.toNat + v.toNat + c.toNat) % 256 = 0), false,
      decide (15 < a.toNat % 16 + v.toNat % 16 + c.toNat), decide (255 < a.toNat + v.toNat + c.toNat))
  | .sub => (a - v, decide (a = v), true, decide (a.toNat % 16 < v.toNat % 16), decide (a.toNat < v.toNat))
  | .sbc => (a - v - bitByte c, decide (a = v + bitByte c), true,
      decide (a.toNat % 16 < v.toNat % 16 + c.toNat), decide (a.toNat < v.toNat + c.toNat))
  | .and => (a &&& v, decide (a &&& v = 0), false, true, false)
  | .xor => (a ^^^ v, decide (a = v), false, false, false)
  | .or => (a ||| v, decide (a = 0 ∧ v = 0), false, false, false)
  | .cp => (a, decide (a = v), true, decide (a.toNat % 16 < v.toNat % 16), decide (a.toNat < v.toNat))

/-- R47: the deferred fields after the operation. -/
def aluDeferred (op : AluOp) (a v : Byte) (c : Bool) : Deferred :=
  match op with
  | .add => { nhA := a, nhB := v, nhCin := false, nhRes := a + v, nhSub := false }
  | .adc => { nhA := a, nhB := v, nhCin := c, nhRes := a + v + bitByte c, nhSub := false }
  | .sub => { nhA := a, nhB := v, nhCin := false, nhRes := a - v, nhSub := true }
  | .sbc => { nhA := a, nhB := v, nhCin := c, nhRes := a - v - bitByte c, nhSub := true }
  | .and => Deferred.canonical false true
  | .xor => Deferred.canonical false false
  | .or => Deferred.canonical false false
  | .cp => { nhA := a, nhB := v, nhCin := false, nhRes := a - v, nhSub := true }

/-- R243 to R250, written over the integers: what a rotate or shift makes of the operand and the old carry, as the
number of the result and the new carry. -/
def rotSpec (op : RotOp) (v : Byte) (c : Bool) : Nat × Bool :=
  match op with
  | .rlc => (v.toNat * 2 % 256 + v.toNat / 128, decide (128 ≤ v.toNat))
  | .rrc => (v.toNat / 2 + v.toNat % 2 * 128, decide (v.toNat % 2 = 1))
  | .rl => (v.toNat * 2 % 256 + c.toNat, decide (128 ≤ v.toNat))
  | .rr => (v.toNat / 2 + c.toNat * 128, decide (v.toNat % 2 = 1))
  | .sla => (v.toNat * 2 % 256, decide (128 ≤ v.toNat))
  | .sra => (v.toNat / 2 + v.toNat / 128 * 128, decide (v.toNat % 2 = 1))
  | .swap => (v.toNat % 16 * 16 + v.toNat / 16, false)
  | .srl => (v.toNat / 2, decide (v.toNat % 2 = 1))

/-- R38: the instructions that write a flag. -/
def FlagWriter (i : Instr) : Prop :=
  (∃ op o, i = Group.alu op o) ∨ (∃ op d8, i = Group.aluImm op d8) ∨ (∃ o, i = Group.inc o) ∨
  (∃ o, i = Group.dec o) ∨ (∃ p, i = Group.addHL p) ∨ (∃ e, i = .add_SP_e e) ∨ (∃ e, i = .ld_HL_SPe e) ∨
  (∃ op o, i = Group.rotate op o) ∨ (∃ b o, i = Group.bit b o) ∨
  i ∈ [.rlca, .rrca, .rla, .rra, .daa, .cpl, .scf, .ccf, .pop_AF]

/-- R330, R333 to R335: the cost of a complete instruction in the state in which it executes, read from three tables
(base cost, cost of a prefixed instruction, extra of a taken transfer) with the instruction's own bytes. -/
def costIn (base extended taken : Byte → Nat) (i : Instr) (s : State) : Nat :=
  match encode i with
  | [] => 0
  | op :: rest =>
    if op = 0xCB then extended (rest.headD 0)
    else
      match conditionOf op with
      | none => base op
      | some cc => if s.cond cc then base op + taken op else base op

/-- The cost of a complete instruction in the implementation's own tables. -/
def tableCost (i : Instr) (s : State) : Nat :=
  costIn (baseCost s.params) (extendedCost s.params) (takenCost s.params) i s

/-- R17: the cost tables are the recommended ones. -/
def RecommendedCosts (p : Config.Params) : Prop :=
  ∀ op, baseCost p op = cyclesPrimary op ∧ extendedCost p op = cyclesExtended op ∧ takenCost p op = takenExtra op

/-- R16: the count of the step has grown by n, if the sum fits in its 8 bits (past them it is a free value, log 22). -/
def CountGrows (n : Nat) (s t : State) : Prop :=
  s.cycles.toNat + n < 256 → t.cycles.toNat = s.cycles.toNat + n

/-- The count has grown by the instruction's cost, whatever the tables; in the recommended tables that is n. -/
def Costs (i : Instr) (n : Nat) (s t : State) : Prop :=
  CountGrows (tableCost i s) s t ∧ (RecommendedCosts s.params → CountGrows n s t)

/-- R288: n is the winning line: pending, enabled, and no line of a lower number is. -/
def IsWinner (n : Fin 5) (s : State) : Prop :=
  s.requests.getLsbD n.val = true ∧ ∀ m : Fin 5, m < n → s.requests.getLsbD m.val = false

/-- R304: the bits of the port's 16-bit value that a field has. -/
def dbgMask (f : DbgField) : Word :=
  match f with
  | .a => 0x00FF
  | .bc | .de | .hl | .sp | .pc => 0xFFFF
  | .fZ | .fN | .fH | .fC | .ime | .halted => 0x0001

/-- A number below 100 as two binary-coded decimal digits. -/
def bcd (n : Nat) : Byte := BitVec.ofNat 8 (n / 10 * 16 + n % 10)

/-! ## Runs -/

/-- Instructions executed one after another, as by steps that fetch them. -/
def runInstrs : List Instr → State → Result
  | [], s => .next s
  | i :: is, s =>
    match exec i s with
    | .next t => runInstrs is t
    | .fault r => .fault r
    | .refused r => .refused r

/-- What can happen at a step boundary: a step, or a move of the environment (R306). -/
inductive Happening where
  | step
  | env (mv : EnvMove)
deriving DecidableEq, Repr

/-- The state after a sequence of steps and moves of the environment, or where it stops. -/
def runHappenings : List Happening → State → Result
  | [], s => .next s
  | .env mv :: hs, s => runHappenings hs (mv.apply s)
  | .step :: hs, s =>
    match Sys2Proof.Machine.step s with
    | .next t => runHappenings hs t
    | .fault r => .fault r
    | .refused r => .refused r

/-- A safe run: every step of it answers a next state. -/
def SafeRun (hs : List Happening) (s : State) : Prop := ∃ t, runHappenings hs s = .next t

/-- R285: the step that gave this state made no error report. -/
def State.quiet (s : State) : Prop := ∀ k detail, PortEvent.report k detail ∉ s.trace

end Sys2Proof.Machine
end

