-- ==== Sys2Proof/Certificates/Slice0/Obligations.lean ====
section
/-! DEFINITION. The statements for the provers, each a def Obligations.<Name> : Prop. An instruction is executed in a state
in which its bytes are fetched and PC is past them (rule R22); Obligations.StepRunsEncodedInstruction says that a step
does exactly that. -/

section

open Sys2Proof Sys2Proof.Machine

/-! ## Encoding -/

/-- R101, R110, R111, R115: decoding the bytes of a complete instruction gives it back, with the bytes after it. -/
def Obligations.DecodeInvertsEncode : Prop :=
  ∀ (i : Instr) (rest : List Byte), i.wf = true → decode (encode i ++ rest) = .ok (i, rest)

/-- R110, R111, R115: the decoder drops no bit: the bytes it has read are the encoding of what it answers. -/
def Obligations.EncodeInvertsDecode : Prop :=
  ∀ (bs : List Byte) (i : Instr) (rest : List Byte), decode bs = .ok (i, rest) → encode i ++ rest = bs

/-- R100, R116: any three bytes hold a complete instruction at their head, whose length the first byte alone tells. -/
def Obligations.FirstByteTellsLength : Prop :=
  ∀ (op b1 b2 : Byte) (rest : List Byte), ∃ i : Instr, i.wf = true ∧
    (encode i).length =
      (if op ∈ ([0x06, 0x0E, 0x16, 0x18, 0x1E, 0x20, 0x26, 0x28, 0x2E, 0x30, 0x36, 0x38, 0x3E, 0xC6, 0xCE, 0xD6, 0xDE,
          0xE0, 0xE6, 0xE8, 0xEE, 0xF0, 0xF6, 0xF8, 0xFE, 0xCB] : List Byte) then 2
      else if op ∈ ([0x01, 0x08, 0x11, 0x21, 0x31, 0xC2, 0xC3, 0xC4, 0xCA, 0xCC, 0xCD, 0xD2, 0xD4, 0xDA, 0xDC, 0xEA,
          0xFA] : List Byte) then 3
      else 1) ∧
    decode (op :: b1 :: b2 :: rest) = .ok (i, (op :: b1 :: b2 :: rest).drop (encode i).length)

/-- The words the spec's examples spell out (R107, R108, R114, R120, R133, R134, R144, R160, R222, R243, R252, R272,
R274): each decodes to the instruction it stands for. -/
def Obligations.ExampleWordsDecode : Prop :=
  decode [0x21, 0x34, 0x12] = .ok (.ld_HL_d16 0x1234, []) ∧
  decode [0x18, 0xFE] = .ok (.jr_e 0xFE, []) ∧
  decode [0xCB, 0xCB] = .ok (.set_1_E, []) ∧
  decode [0x3C, 0x3C, 0x3C] = .ok (.inc_A, [0x3C, 0x3C]) ∧
  decode [0x3E, 0x45] = .ok (.ld_A_d8 0x45, []) ∧
  decode [0x36, 0x99] = .ok (.ld_mHL_d8 0x99, []) ∧
  decode [0xEA, 0x00, 0xC1] = .ok (.ld_mA16_A 0xC100, []) ∧
  decode [0x31, 0xFE, 0xFF] = .ok (.ld_SP_d16 0xFFFE, []) ∧
  decode [0xEF] = .ok (.rst_28, []) ∧
  decode [0xCB, 0x00] = .ok (.rlc_B, []) ∧
  decode [0xCB, 0x86] = .ok (.res_0_mHL, []) ∧
  decode [0x10, 0x3C] = .ok (.stop, [0x3C]) ∧
  decode [0xDD, 0x3C] = .ok (.invalid_DD, [0x3C])

/-! ## The flag encoding layer -/

/-- R41, R42: the packed byte, and what unpacking a byte writes. With them the round trips of rule R43: unpacking the
packed flags leaves the four flags, and packing after unpacking v gives v AND 0xF0 (the second is the spec's inference). -/
def Obligations.FlagByteRoundTrip : Prop :=
  ∀ (s : State) (v : Byte),
    s.packFlags.toNat = s.fZ.toNat * 0x80 + s.fN.toNat * 0x40 + s.fH.toNat * 0x20 + s.fC.toNat * 0x10 ∧
    FlagsAre (v.getLsbD 7) (v.getLsbD 6) (v.getLsbD 5) (v.getLsbD 4) (s.unpackFlags v) ∧
    OnlyRegs [] s (s.unpackFlags v) ∧
    FlagsAre s.fZ s.fN s.fH s.fC (s.unpackFlags s.packFlags) ∧
    (s.unpackFlags v).packFlags = v &&& 0xF0

/-- R45: how fN and fH read the deferred fields, and that under the invariant of rule R44 fH is bit 4 of
nh_a XOR nh_b XOR nh_res (the spec's inference). -/
def Obligations.DeferredFlagsRead : Prop :=
  ∀ (s : State) (d : Deferred), s.nh = .lazyNH d →
    s.fN = d.nhSub ∧
    s.fH = (if d.nhSub = false then decide (0xF < d.nhA.toNat % 16 + d.nhB.toNat % 16 + d.nhCin.toNat)
      else decide (d.nhA.toNat % 16 < d.nhB.toNat % 16 + d.nhCin.toNat)) ∧
    (d.wf → s.fH = (d.nhA ^^^ d.nhB ^^^ d.nhRes).getLsbD 4)

/-- R47, R44: what each instruction that writes N and H stores in the five deferred fields, in every operand form: the
operands, the carry-in and the result of the addition or subtraction; the high bytes and the carry between the bytes for
ADD HL,rr (whose nhRes follows from R44). For every instruction that forces N and H or copies them, for UnpackFlags and for
the DBG port, the row stored is the canonical one: R47 lets any row do that reads as the required pair and only names a
canonical choice, so these clauses are the model's choice (log 12). Every other instruction leaves the five fields. -/
def Obligations.DeferredFieldsStored : Prop :=
  ∀ (s t : State) (d : Deferred), s.nh = .lazyNH d →
    (∀ op o, exec (Group.alu op o) s = .next t → t.nh = .lazyNH (aluDeferred op s.a (s.readOperand o).1 s.fC)) ∧
    (∀ op d8, exec (Group.aluImm op d8) s = .next t → t.nh = .lazyNH (aluDeferred op s.a d8 s.fC)) ∧
    (∀ o, exec (Group.inc o) s = .next t → t.nh = .lazyNH
      { nhA := (s.readOperand o).1, nhB := 1, nhCin := false, nhRes := (s.readOperand o).1 + 1, nhSub := false }) ∧
    (∀ o, exec (Group.dec o) s = .next t → t.nh = .lazyNH
      { nhA := (s.readOperand o).1, nhB := 1, nhCin := false, nhRes := (s.readOperand o).1 - 1, nhSub := true }) ∧
    (∀ p, exec (Group.addHL p) s = .next t → t.nh = .lazyNH
      { nhA := s.h, nhB := hi (s.pair p), nhCin := decide (0xFF < s.l.toNat + (lo (s.pair p)).toNat),
        nhRes := hi (s.hl + s.pair p), nhSub := false }) ∧
    (∀ e, exec (.add_SP_e e) s = .next t ∨ exec (.ld_HL_SPe e) s = .next t → t.nh = .lazyNH
      { nhA := lo s.sp, nhB := e, nhCin := false, nhRes := lo s.sp + e, nhSub := false }) ∧
    (∀ op o, exec (Group.rotate op o) s = .next t → t.nh = .lazyNH (Deferred.canonical false false)) ∧
    (∀ b o, exec (Group.bit b o) s = .next t → t.nh = .lazyNH (Deferred.canonical false true)) ∧
    (∀ i ∈ [Instr.rlca, .rrca, .rla, .rra, .scf, .ccf], exec i s = .next t →
      t.nh = .lazyNH (Deferred.canonical false false)) ∧
    (exec .daa s = .next t → t.nh = .lazyNH (Deferred.canonical s.fN false)) ∧
    (exec .cpl s = .next t → t.nh = .lazyNH (Deferred.canonical true true)) ∧
    (exec .pop_AF s = .next t → t.nh = .lazyNH
      (Deferred.canonical ((memRead s.sp s).1.getLsbD 6) ((memRead s.sp s).1.getLsbD 5))) ∧
    (∀ v : Byte, (s.unpackFlags v).nh = .lazyNH (Deferred.canonical (v.getLsbD 6) (v.getLsbD 5))) ∧
    (∀ v : Word, (dbgWrite .fN v s).nh = .lazyNH (Deferred.canonical (v.getLsbD 0) s.fH) ∧
      (dbgWrite .fH v s).nh = .lazyNH (Deferred.canonical s.fN (v.getLsbD 0))) ∧
    (∀ i, exec i s = .next t → ¬ FlagWriter i → i ≠ .cbPrefix → t.nh = s.nh)

/-- R46, R48: the two representations give the same behaviour: every instruction and every step from a state, seen through
the abstraction of rule R45, is that from the direct state it stands for, and so is every use of the DBG port; the flag
byte is the same. -/
def Obligations.FlagRepresentationsAgree : Prop :=
  (∀ s : State, s.toDirect.packFlags = s.packFlags) ∧
  (∀ (f : DbgField) (v : Word) (s : State), dbgRead f s.toDirect = dbgRead f s ∧
    dbgWrite f v s.toDirect = (dbgWrite f v s).toDirect) ∧
  (∀ (i : Instr) (s : State), mapNext State.toDirect (exec i s) = exec i s.toDirect) ∧
  (∀ s : State, mapNext State.toDirect (step s) = step s.toDirect)

/-- R37, and R38's sentence that no instruction outside the table of flag writers writes a flag (the spec's inference). -/
def Obligations.OnlyFlagWritersWriteFlags : Prop :=
  ∀ (i : Instr) (s : State), i.wf = true → ¬ FlagWriter i → ∃ t, exec i s = .next t ∧ SameFlags s t

/-! ## 8-bit loads and stores -/

/-- R130, R133: LD r,r' (49 instructions) and LD r,d8 (7). -/
def Obligations.LoadRegister : Prop :=
  ∀ (dst r : Reg8) (d8 : Byte) (s : State),
    (encode (Group.ldRegReg dst r) = [BitVec.ofNat 8 (0x40 + 8 * dst.code + r.code)] ∧
      ∃ t, exec (Group.ldRegReg dst r) s = .next t ∧ t.reg dst = s.reg r ∧
        OnlyRegs [dst] s t ∧ SameFlags s t ∧ Costs (Group.ldRegReg dst r) 4 s t) ∧
    (encode (Group.ldImm (.reg dst) d8) = [BitVec.ofNat 8 (0x06 + 8 * dst.code), d8] ∧
      ∃ t, exec (Group.ldImm (.reg dst) d8) s = .next t ∧ t.reg dst = d8 ∧
        OnlyRegs [dst] s t ∧ SameFlags s t ∧ Costs (Group.ldImm (.reg dst) d8) 8 s t)

/-- R131: LD r,(HL) (7 instructions); LD H,(HL) and LD L,(HL) read at the old HL. Behind the bus nothing else changes,
unless HL is a device's address (R306). -/
def Obligations.LoadRegisterFromMemory : Prop :=
  ∀ (dst : Reg8) (s : State),
    encode (Group.ldRegMem dst) = [BitVec.ofNat 8 (0x46 + 8 * dst.code)] ∧
    ∃ t, exec (Group.ldRegMem dst) s = .next t ∧ t.reg dst = (memRead s.hl s).1 ∧
      SameRegsBut [dst] s t ∧ t.sp = s.sp ∧ t.pc = s.pc ∧ SameFlags s t ∧ SameModes s t ∧
      BusAfter [s.hl] [] [readCall s.hl (memRead s.hl s).1 s] s t ∧ Costs (Group.ldRegMem dst) 8 s t

/-- R132, R134: LD (HL),r (7 instructions) and LD (HL),d8. That a read-only address keeps its byte is the model's reading of
R75 (log 7); behind a device address anything may change (R306). -/
def Obligations.StoreAtHL : Prop :=
  ∀ (r : Reg8) (d8 : Byte) (s : State),
    (encode (Group.ldMemReg r) = [BitVec.ofNat 8 (0x70 + r.code)] ∧
      ∃ t, exec (Group.ldMemReg r) s = .next t ∧
        SameRegsBut [] s t ∧ t.sp = s.sp ∧ t.pc = s.pc ∧ SameFlags s t ∧ SameModes s t ∧
        BusAfter [s.hl] [s.hl] [writeCall s.hl (s.reg r) s] s t ∧
        StoredBytes [(s.hl, s.reg r)] s t ∧ Costs (Group.ldMemReg r) 8 s t) ∧
    (encode (.ld_mHL_d8 d8) = [0x36, d8] ∧
      ∃ t, exec (.ld_mHL_d8 d8) s = .next t ∧
        SameRegsBut [] s t ∧ t.sp = s.sp ∧ t.pc = s.pc ∧ SameFlags s t ∧ SameModes s t ∧
        BusAfter [s.hl] [s.hl] [writeCall s.hl d8 s] s t ∧
        StoredBytes [(s.hl, d8)] s t ∧ Costs (.ld_mHL_d8 d8) 12 s t)

/-- R135, R136, R143, R145, R147: LD A,(BC); LD A,(DE); LD A,(a16); LDH A,(a8); LD A,(C), each with its address, its
encoding and its cost. Behind the bus nothing else changes, unless the address is a device's (R306). -/
def Obligations.LoadAccumulator : Prop :=
  ∀ (a8 : Byte) (a16 : Word) (s : State),
    ∀ f ∈ [(Instr.ld_A_mBC, s.bc, [0x0A], 8), (.ld_A_mDE, s.de, [0x1A], 8),
        (.ld_A_mA16 a16, a16, [0xFA, lo a16, hi a16], 16),
        (.ldh_A_mA8 a8, 0xFF00 + a8.setWidth 16, [0xF0, a8], 12), (.ld_A_mC, 0xFF00 + s.c.setWidth 16, [0xF2], 8)],
      encode f.1 = f.2.2.1 ∧
      ∃ t, exec f.1 s = .next t ∧ t.a = (memRead f.2.1 s).1 ∧
        SameRegsBut [.a] s t ∧ t.sp = s.sp ∧ t.pc = s.pc ∧ SameFlags s t ∧ SameModes s t ∧
        BusAfter [f.2.1] [] [readCall f.2.1 (memRead f.2.1 s).1 s] s t ∧ Costs f.1 f.2.2.2 s t

/-- R137, R138, R144, R146, R148: LD (BC),A; LD (DE),A; LD (a16),A; LDH (a8),A; LD (C),A, each with its address, its
encoding and its cost. That a read-only address keeps its byte is the model's reading of R75 (log 7); behind a device
address anything may change (R306). -/
def Obligations.StoreAccumulator : Prop :=
  ∀ (a8 : Byte) (a16 : Word) (s : State),
    ∀ f ∈ [(Instr.ld_mBC_A, s.bc, [0x02], 8), (.ld_mDE_A, s.de, [0x12], 8),
        (.ld_mA16_A a16, a16, [0xEA, lo a16, hi a16], 16),
        (.ldh_mA8_A a8, 0xFF00 + a8.setWidth 16, [0xE0, a8], 12), (.ld_mC_A, 0xFF00 + s.c.setWidth 16, [0xE2], 8)],
      encode f.1 = f.2.2.1 ∧
      ∃ t, exec f.1 s = .next t ∧
        SameRegsBut [] s t ∧ t.sp = s.sp ∧ t.pc = s.pc ∧ SameFlags s t ∧ SameModes s t ∧
        BusAfter [f.2.1] [f.2.1] [writeCall f.2.1 s.a s] s t ∧
        StoredBytes [(f.2.1, s.a)] s t ∧ Costs f.1 f.2.2.2 s t

/-- R139, R140: LD A,(HL+) and LD A,(HL-): the read is at the old HL. Behind the bus nothing else changes, unless that is a
device's address (R306). -/
def Obligations.LoadAccumulatorAndStep : Prop :=
  ∀ (s : State), ∀ f ∈ [(Instr.ld_A_mHLI, s.hl + 1, 0x2A), (.ld_A_mHLD, s.hl - 1, 0x3A)],
    encode f.1 = [f.2.2] ∧
    ∃ t, exec f.1 s = .next t ∧ t.a = (memRead s.hl s).1 ∧ t.hl = f.2.1 ∧
      SameRegsBut [.a, .h, .l] s t ∧ t.sp = s.sp ∧ t.pc = s.pc ∧ SameFlags s t ∧ SameModes s t ∧
      BusAfter [s.hl] [] [readCall s.hl (memRead s.hl s).1 s] s t ∧ Costs f.1 8 s t

/-- R141, R142: LD (HL+),A and LD (HL-),A: the write is at the old HL. That a read-only address keeps its byte is the
model's reading of R75 (log 7); behind a device address anything may change (R306). -/
def Obligations.StoreAccumulatorAndStep : Prop :=
  ∀ (s : State), ∀ f ∈ [(Instr.ld_mHLI_A, s.hl + 1, 0x22), (.ld_mHLD_A, s.hl - 1, 0x32)],
    encode f.1 = [f.2.2] ∧
    ∃ t, exec f.1 s = .next t ∧ t.hl = f.2.1 ∧
      SameRegsBut [.h, .l] s t ∧ t.sp = s.sp ∧ t.pc = s.pc ∧ SameFlags s t ∧ SameModes s t ∧
      BusAfter [s.hl] [s.hl] [writeCall s.hl s.a s] s t ∧
      StoredBytes [(s.hl, s.a)] s t ∧ Costs f.1 8 s t

/-! ## 16-bit registers -/

/-- R160, R170, R171: LD rr,d16; INC rr; DEC rr, for BC, DE, HL and SP. No flag is written. -/
def Obligations.WritePair : Prop :=
  ∀ (p : Pair) (d16 : Word) (s : State),
    ∀ f ∈ [(Group.ldPair p d16, d16, [BitVec.ofNat 8 (0x01 + 16 * p.code), lo d16, hi d16], 12),
        (Group.incPair p, s.pair p + 1, [BitVec.ofNat 8 (0x03 + 16 * p.code)], 8),
        (Group.decPair p, s.pair p - 1, [BitVec.ofNat 8 (0x0B + 16 * p.code)], 8)],
      encode f.1 = f.2.2.1 ∧
      ∃ t, exec f.1 s = .next t ∧ t.pair p = f.2.1 ∧ (∀ q, q ≠ p → t.pair q = s.pair q) ∧
        t.a = s.a ∧ t.pc = s.pc ∧ SameFlags s t ∧ SameModes s t ∧ SameBus s t ∧ Costs f.1 f.2.2.2 s t

/-- R161: LD (a16),SP: the low byte at a16 first, then the high byte at a16 + 1, the address wrapping. That a read-only
address keeps its byte is the model's reading of R75 (log 7); behind a device address anything may change (R306), the kind
of the second address included. -/
def Obligations.StoreStackPointer : Prop :=
  ∀ (a16 : Word) (s : State),
    encode (.ld_mA16_SP a16) = [0x08, lo a16, hi a16] ∧
    ∃ t, exec (.ld_mA16_SP a16) s = .next t ∧
      SameRegsBut [] s t ∧ t.sp = s.sp ∧ t.pc = s.pc ∧ SameFlags s t ∧ SameModes s t ∧
      BusAfter [a16, a16 + 1] [a16, a16 + 1]
        [writeCall a16 (lo s.sp) s, writeCall (a16 + 1) (hi s.sp) (memWrite a16 (lo s.sp) s)] s t ∧
      StoredBytes [(a16, lo s.sp), (a16 + 1, hi s.sp)] s t ∧ Costs (.ld_mA16_SP a16) 20 s t

/-- R162, R163, R201: LD SP,HL; LD HL,SP+e; ADD SP,e. The displacement is signed in the result; the flags are those of the
unsigned addition to the low byte of SP. -/
def Obligations.StackPointerArithmetic : Prop :=
  ∀ (e : Byte) (s : State),
    (encode .ld_SP_HL = [0xF9] ∧ ∃ t, exec .ld_SP_HL s = .next t ∧ t.sp = s.hl ∧ SameRegsBut [] s t ∧ t.pc = s.pc ∧
      SameFlags s t ∧ SameModes s t ∧ SameBus s t ∧ Costs .ld_SP_HL 8 s t) ∧
    (encode (.ld_HL_SPe e) = [0xF8, e] ∧ ∃ t, exec (.ld_HL_SPe e) s = .next t ∧
      t.hl = BitVec.ofInt 16 ((s.sp.toNat : Int) + e.toInt) ∧ OnlyRegs [.h, .l] s t ∧
      FlagsAre false false (decide (0xF < s.sp.toNat % 16 + e.toNat % 16))
        (decide (0xFF < s.sp.toNat % 256 + e.toNat)) t ∧ Costs (.ld_HL_SPe e) 12 s t) ∧
    (encode (.add_SP_e e) = [0xE8, e] ∧ ∃ t, exec (.add_SP_e e) s = .next t ∧
      t.sp = BitVec.ofInt 16 ((s.sp.toNat : Int) + e.toInt) ∧ SameRegsBut [] s t ∧ t.pc = s.pc ∧
      SameModes s t ∧ SameBus s t ∧
      FlagsAre false false (decide (0xF < s.sp.toNat % 16 + e.toNat % 16))
        (decide (0xFF < s.sp.toNat % 256 + e.toNat)) t ∧ Costs (.add_SP_e e) 16 s t)

/-- R200: ADD HL,rr, for BC, DE, HL and SP; Z is kept. -/
def Obligations.AddToHL : Prop :=
  ∀ (p : Pair) (s : State),
    encode (Group.addHL p) = [BitVec.ofNat 8 (0x09 + 16 * p.code)] ∧
    ∃ t, exec (Group.addHL p) s = .next t ∧ t.hl.toNat = (s.hl.toNat + (s.pair p).toNat) % 65536 ∧
      OnlyRegs [.h, .l] s t ∧
      FlagsAre s.fZ false (decide (0x0FFF < s.hl.toNat % 4096 + (s.pair p).toNat % 4096))
        (decide (0xFFFF < s.hl.toNat + (s.pair p).toNat)) t ∧ Costs (Group.addHL p) 8 s t

/-! ## Increments, decrements and the 8-bit ALU -/

/-- R172, R173: INC r and DEC r (14 instructions); C is kept. -/
def Obligations.IncDecRegister : Prop :=
  ∀ (r : Reg8) (s : State),
    (encode (Group.inc (.reg r)) = [BitVec.ofNat 8 (0x04 + 8 * r.code)] ∧
      ∃ t, exec (Group.inc (.reg r)) s = .next t ∧ t.reg r = s.reg r + 1 ∧ OnlyRegs [r] s t ∧
        FlagsAre (decide (s.reg r = 0xFF)) false (decide ((s.reg r).toNat % 16 = 0xF)) s.fC t ∧
        Costs (Group.inc (.reg r)) 4 s t) ∧
    (encode (Group.dec (.reg r)) = [BitVec.ofNat 8 (0x05 + 8 * r.code)] ∧
      ∃ t, exec (Group.dec (.reg r)) s = .next t ∧ t.reg r = s.reg r - 1 ∧ OnlyRegs [r] s t ∧
        FlagsAre (decide (s.reg r = 1)) true (decide ((s.reg r).toNat % 16 = 0)) s.fC t ∧
        Costs (Group.dec (.reg r)) 4 s t)

/-- R174, R175: INC (HL) and DEC (HL): one read, then one write, both at HL; C is kept. That a read-only address keeps its
byte is the model's reading of R75 (log 7); behind a device address anything may change (R306), the kind of HL between the
two accesses included. -/
def Obligations.IncDecMemory : Prop :=
  ∀ (s : State),
    (encode .inc_mHL = [0x34] ∧ ∃ t, exec .inc_mHL s = .next t ∧
      SameRegsBut [] s t ∧ t.sp = s.sp ∧ t.pc = s.pc ∧ SameModes s t ∧
      BusAfter [s.hl] [s.hl]
        [readCall s.hl (memRead s.hl s).1 s, writeCall s.hl ((memRead s.hl s).1 + 1) (memRead s.hl s).2] s t ∧
      StoredBytes [(s.hl, (memRead s.hl s).1 + 1)] s t ∧
      FlagsAre (decide ((memRead s.hl s).1 = 0xFF)) false (decide ((memRead s.hl s).1.toNat % 16 = 0xF)) s.fC t ∧
      Costs .inc_mHL 12 s t) ∧
    (encode .dec_mHL = [0x35] ∧ ∃ t, exec .dec_mHL s = .next t ∧
      SameRegsBut [] s t ∧ t.sp = s.sp ∧ t.pc = s.pc ∧ SameModes s t ∧
      BusAfter [s.hl] [s.hl]
        [readCall s.hl (memRead s.hl s).1 s, writeCall s.hl ((memRead s.hl s).1 - 1) (memRead s.hl s).2] s t ∧
      StoredBytes [(s.hl, (memRead s.hl s).1 - 1)] s t ∧
      FlagsAre (decide ((memRead s.hl s).1 = 1)) true (decide ((memRead s.hl s).1.toNat % 16 = 0)) s.fC t ∧
      Costs .dec_mHL 12 s t)

/-- R180, and the identities of R190: the detectors over the integers; a subtraction is the addition of the complement,
with complementary carries (both, and the formulas of the subtraction, are the spec's inferences). -/
def Obligations.CarryDetectors : Prop :=
  ∀ (a b : Byte) (c : Bool),
    (add8 a b c).res.toNat = (a.toNat + b.toNat + c.toNat) % 256 ∧
    (add8 a b c).half = decide (0xF < a.toNat % 16 + b.toNat % 16 + c.toNat) ∧
    (add8 a b c).carry = decide (0xFF < a.toNat + b.toNat + c.toNat) ∧
    ((sub8 a b c).res.toNat : Int) = ((a.toNat : Int) - b.toNat - c.toNat) % 256 ∧
    (sub8 a b c).half = decide (a.toNat % 16 < b.toNat % 16 + c.toNat) ∧
    (sub8 a b c).carry = decide ((a.toNat : Int) - b.toNat - c.toNat < 0) ∧
    (sub8 a b c).res = (add8 a (255 - b) !c).res ∧
    (sub8 a b c).carry = !(add8 a (255 - b) !c).carry ∧
    (sub8 a b c).half = !(add8 a (255 - b) !c).half

/-- R181 to R189: the 8-bit arithmetic and logic group on a register (56 instructions), on an immediate (8) and on the
memory byte at HL (8): one read, no write. CP leaves A. The written-out borrow formulas of SUB, SBC and CP are R180's own
inference. Behind the bus nothing else changes, unless HL is a device's address (R306). -/
def Obligations.ArithmeticLogicGroup : Prop :=
  ∀ (op : AluOp) (r : Reg8) (d8 : Byte) (s : State),
    (encode (Group.alu op (.reg r)) = [BitVec.ofNat 8 (0x80 + 8 * op.code + r.code)] ∧
      ∃ t, exec (Group.alu op (.reg r)) s = .next t ∧ t.a = (aluSpec op s.a (s.reg r) s.fC).1 ∧ OnlyRegs [.a] s t ∧
        FlagsAre (aluSpec op s.a (s.reg r) s.fC).2.1 (aluSpec op s.a (s.reg r) s.fC).2.2.1
          (aluSpec op s.a (s.reg r) s.fC).2.2.2.1 (aluSpec op s.a (s.reg r) s.fC).2.2.2.2 t ∧
        Costs (Group.alu op (.reg r)) 4 s t) ∧
    (encode (Group.aluImm op d8) = [BitVec.ofNat 8 (0xC6 + 8 * op.code), d8] ∧
      ∃ t, exec (Group.aluImm op d8) s = .next t ∧ t.a = (aluSpec op s.a d8 s.fC).1 ∧ OnlyRegs [.a] s t ∧
        FlagsAre (aluSpec op s.a d8 s.fC).2.1 (aluSpec op s.a d8 s.fC).2.2.1
          (aluSpec op s.a d8 s.fC).2.2.2.1 (aluSpec op s.a d8 s.fC).2.2.2.2 t ∧
        Costs (Group.aluImm op d8) 8 s t) ∧
    (encode (Group.alu op .atHL) = [BitVec.ofNat 8 (0x86 + 8 * op.code)] ∧
      ∃ t, exec (Group.alu op .atHL) s = .next t ∧ t.a = (aluSpec op s.a (memRead s.hl s).1 s.fC).1 ∧
        SameRegsBut [.a] s t ∧ t.sp = s.sp ∧ t.pc = s.pc ∧ SameModes s t ∧
        BusAfter [s.hl] [] [readCall s.hl (memRead s.hl s).1 s] s t ∧
        FlagsAre (aluSpec op s.a (memRead s.hl s).1 s.fC).2.1 (aluSpec op s.a (memRead s.hl s).1 s.fC).2.2.1
          (aluSpec op s.a (memRead s.hl s).1 s.fC).2.2.2.1 (aluSpec op s.a (memRead s.hl s).1 s.fC).2.2.2.2 t ∧
        Costs (Group.alu op .atHL) 8 s t)

/-! ## Control transfer -/

/-- R211 to R215: JR, JR cc, JP, JP cc and JP (HL), with the cost of a taken and of an untaken transfer. -/
def Obligations.Jumps : Prop :=
  ∀ (cc : Cond) (e : Byte) (a16 : Word) (s : State),
    ∀ f ∈ [(Instr.jr_e e, BitVec.ofInt 16 ((s.pc.toNat : Int) + e.toInt), 12, [0x18, e]),
        (Group.jrCond cc e, if s.cond cc then BitVec.ofInt 16 ((s.pc.toNat : Int) + e.toInt) else s.pc,
          if s.cond cc then 12 else 8, [BitVec.ofNat 8 (0x20 + 8 * cc.code), e]),
        (.jp_a16 a16, a16, 16, [0xC3, lo a16, hi a16]),
        (Group.jpCond cc a16, if s.cond cc then a16 else s.pc, if s.cond cc then 16 else 12,
          [BitVec.ofNat 8 (0xC2 + 8 * cc.code), lo a16, hi a16]),
        (.jp_mHL, s.hl, 4, [0xE9])],
      encode f.1 = f.2.2.2 ∧
      ∃ t, exec f.1 s = .next t ∧ t.pc = f.2.1 ∧ SameRegsBut [] s t ∧ t.sp = s.sp ∧ SameFlags s t ∧ SameModes s t ∧
        SameBus s t ∧ Costs f.1 f.2.2.1 s t

/-- R216, R217, R222: CALL, a taken CALL cc and RST push the address after the instruction, high byte first, and go to
the target; RST's targets are 8 * y in the recommended parameters. A CALL cc whose condition does not hold costs 12 and does
nothing: no stack access. That a read-only address keeps its byte is the model's reading of R75 (log 7); behind a device
address anything may change (R306). -/
def Obligations.CallsPushReturnAddress : Prop :=
  ∀ (cc : Cond) (y : Fin 8) (a16 : Word) (s : State),
    (s.cond cc = false → ∃ t, exec (Group.callCond cc a16) s = .next t ∧ OnlyRegs [] s t ∧ SameFlags s t ∧
      Costs (Group.callCond cc a16) 12 s t) ∧
    (s.params.rstVector = defaultParams.rstVector → restartAddress s.params y = BitVec.ofNat 16 (8 * y.val)) ∧
    ∀ f ∈ [(Instr.call_a16 a16, a16, 24, [0xCD, lo a16, hi a16], true),
        (Group.callCond cc a16, a16, 24, [BitVec.ofNat 8 (0xC4 + 8 * cc.code), lo a16, hi a16], s.cond cc),
        (Group.rst y, restartAddress s.params y, 16, [BitVec.ofNat 8 (0xC7 + 8 * y.val)], true)],
      encode f.1 = f.2.2.2.1 ∧
      (f.2.2.2.2 = true → ∃ t, exec f.1 s = .next t ∧ t.pc = f.2.1 ∧ t.sp = s.sp - 2 ∧
        SameRegsBut [] s t ∧ SameFlags s t ∧ SameModes s t ∧
        BusAfter [s.sp - 1, s.sp - 2] [s.sp - 1, s.sp - 2]
          [writeCall (s.sp - 1) (hi s.pc) s, writeCall (s.sp - 2) (lo s.pc) (memWrite (s.sp - 1) (hi s.pc) s)] s t ∧
        StoredBytes [(s.sp - 1, hi s.pc), (s.sp - 2, lo s.pc)] s t ∧ Costs f.1 f.2.2.1 s t)

/-- R218, R219, R221: RET, a taken RET cc and RETI pop PC, low byte first; RETI sets IME at once and is the return from
an interrupt, the others leave IME. A RET cc whose condition does not hold costs 8 and does nothing: no stack access. Behind
the bus nothing else changes, unless a stack address is a device's (R306). -/
def Obligations.ReturnsPopProgramCounter : Prop :=
  ∀ (cc : Cond) (s : State),
    (s.cond cc = false → ∃ t, exec (Group.retCond cc) s = .next t ∧ OnlyRegs [] s t ∧ SameFlags s t ∧
      Costs (Group.retCond cc) 8 s t) ∧
    ∀ f ∈ [(Instr.ret, 16, [0xC9], s.ime, true),
        (Group.retCond cc, 20, [BitVec.ofNat 8 (0xC0 + 8 * cc.code)], s.ime, s.cond cc),
        (.reti, 16, [0xD9], true, true)],
      encode f.1 = f.2.2.1 ∧
      (f.2.2.2.2 = true → ∃ t, exec f.1 s = .next t ∧
        t.pc = join (memRead (s.sp + 1) (memRead s.sp s).2).1 (memRead s.sp s).1 ∧ t.sp = s.sp + 2 ∧
        t.ime = f.2.2.2.1 ∧ t.halted = s.halted ∧ SameRegsBut [] s t ∧ SameFlags s t ∧
        BusAfter [s.sp, s.sp + 1] []
          [readCall s.sp (memRead s.sp s).1 s,
            readCall (s.sp + 1) (memRead (s.sp + 1) (memRead s.sp s).2).1 (memRead s.sp s).2] s t ∧
        Costs f.1 f.2.1 s t)

/-! ## The stack -/

/-- R232, R234: PUSH BC, DE, HL and AF: high byte first at SP - 1, low byte at SP - 2; the low byte of AF is the packed
flags. That a read-only address keeps its byte is the model's reading of R75 (log 7); behind a device address anything may
change (R306). -/
def Obligations.PushPair : Prop :=
  ∀ (p : StackPair) (s : State),
    encode (Group.push p) = [BitVec.ofNat 8 (0xC5 + 16 * p.code)] ∧
    ∃ t, exec (Group.push p) s = .next t ∧ t.sp = s.sp - 2 ∧ SameRegsBut [] s t ∧ t.pc = s.pc ∧ SameFlags s t ∧
      SameModes s t ∧
      BusAfter [s.sp - 1, s.sp - 2] [s.sp - 1, s.sp - 2]
        [writeCall (s.sp - 1) (hi (s.stackPair p)) s,
          writeCall (s.sp - 2) (lo (s.stackPair p)) (memWrite (s.sp - 1) (hi (s.stackPair p)) s)] s t ∧
      StoredBytes [(s.sp - 1, hi (s.stackPair p)), (s.sp - 2, lo (s.stackPair p))] s t ∧
      (p = .af → hi (s.stackPair p) = s.a ∧ lo (s.stackPair p) = s.packFlags) ∧ Costs (Group.push p) 16 s t

/-- R233, R235: POP BC, DE, HL and AF: low byte first at SP, high byte at SP + 1; POP AF unpacks the flags from the low
byte, whose bits 3 to 0 are lost, the others leave the flags. Behind the bus nothing else changes, unless a stack address is
a device's (R306). -/
def Obligations.PopPair : Prop :=
  ∀ (p : StackPair) (s : State),
    encode (Group.pop p) = [BitVec.ofNat 8 (0xC1 + 16 * p.code)] ∧
    ∃ t, exec (Group.pop p) s = .next t ∧ t.sp = s.sp + 2 ∧ t.pc = s.pc ∧ SameModes s t ∧
      hi (t.stackPair p) = (memRead (s.sp + 1) (memRead s.sp s).2).1 ∧
      (p ≠ .af → lo (t.stackPair p) = (memRead s.sp s).1 ∧ t.a = s.a ∧ SameFlags s t) ∧
      (p = .af → t.a = (memRead (s.sp + 1) (memRead s.sp s).2).1 ∧
        lo (t.stackPair p) = (memRead s.sp s).1 &&& 0xF0 ∧
        FlagsAre ((memRead s.sp s).1.getLsbD 7) ((memRead s.sp s).1.getLsbD 6) ((memRead s.sp s).1.getLsbD 5)
          ((memRead s.sp s).1.getLsbD 4) t) ∧
      (∀ q, q ≠ p → q ≠ .af → t.stackPair q = s.stackPair q) ∧
      BusAfter [s.sp, s.sp + 1] []
        [readCall s.sp (memRead s.sp s).1 s,
          readCall (s.sp + 1) (memRead (s.sp + 1) (memRead s.sp s).2).1 (memRead s.sp s).2] s t ∧
      Costs (Group.pop p) 12 s t

/-- R231, the stack discipline: pushing any sequence of pairs and popping them in the reverse order leaves every
register, SP, PC and the four flags as they were, when the stack bytes are plain memory and do not overlap. -/
def Obligations.PushesThenPopsRestore : Prop :=
  ∀ (ps : List StackPair) (s : State), s.Inv → 2 * ps.length ≤ 65536 →
    (∀ k, 1 ≤ k → k ≤ 2 * ps.length → s.isPlain (s.sp - BitVec.ofNat 16 k)) →
    ∃ t, runInstrs (ps.map Group.push ++ ps.reverse.map Group.pop) s = .next t ∧
      SameRegsBut [] s t ∧ t.sp = s.sp ∧ t.pc = s.pc ∧ FlagsAre s.fZ s.fN s.fH s.fC t ∧ SameModes s t

/-! ## The prefixed group -/

/-- R241, R243 to R250: the rotates, shifts and SWAP on a register (56 instructions) and on the memory byte at HL (8). That
a read-only address keeps its byte is the model's reading of R75 (log 7); behind a device address anything may change
(R306). -/
def Obligations.RotatesAndShifts : Prop :=
  ∀ (op : RotOp) (r : Reg8) (s : State),
    (encode (Group.rotate op (.reg r)) = [0xCB, BitVec.ofNat 8 (8 * op.code + r.code)] ∧
      ∃ t, exec (Group.rotate op (.reg r)) s = .next t ∧ (t.reg r).toNat = (rotSpec op (s.reg r) s.fC).1 ∧
        OnlyRegs [r] s t ∧
        FlagsAre (decide ((rotSpec op (s.reg r) s.fC).1 = 0)) false false (rotSpec op (s.reg r) s.fC).2 t ∧
        Costs (Group.rotate op (.reg r)) 8 s t) ∧
    (encode (Group.rotate op .atHL) = [0xCB, BitVec.ofNat 8 (0x06 + 8 * op.code)] ∧
      ∃ (t : State) (res : Byte), exec (Group.rotate op .atHL) s = .next t ∧
        res.toNat = (rotSpec op (memRead s.hl s).1 s.fC).1 ∧
        SameRegsBut [] s t ∧ t.sp = s.sp ∧ t.pc = s.pc ∧ SameModes s t ∧
        BusAfter [s.hl] [s.hl] [readCall s.hl (memRead s.hl s).1 s, writeCall s.hl res (memRead s.hl s).2] s t ∧
        StoredBytes [(s.hl, res)] s t ∧
        FlagsAre (decide ((rotSpec op (memRead s.hl s).1 s.fC).1 = 0)) false false
          (rotSpec op (memRead s.hl s).1 s.fC).2 t ∧
        Costs (Group.rotate op .atHL) 16 s t)

/-- R241, R251: BIT b,s on a register (56 instructions) and on the memory byte at HL (8): one read, no write; C is
kept. Behind the bus nothing else changes, unless HL is a device's address (R306). -/
def Obligations.BitTests : Prop :=
  ∀ (b : Fin 8) (r : Reg8) (s : State),
    (encode (Group.bit b (.reg r)) = [0xCB, BitVec.ofNat 8 (0x40 + 8 * b.val + r.code)] ∧
      ∃ t, exec (Group.bit b (.reg r)) s = .next t ∧ OnlyRegs [] s t ∧
        FlagsAre (decide ((s.reg r).toNat / 2 ^ b.val % 2 = 0)) false true s.fC t ∧ Costs (Group.bit b (.reg r)) 8 s t) ∧
    (encode (Group.bit b .atHL) = [0xCB, BitVec.ofNat 8 (0x46 + 8 * b.val)] ∧
      ∃ t, exec (Group.bit b .atHL) s = .next t ∧
        SameRegsBut [] s t ∧ t.sp = s.sp ∧ t.pc = s.pc ∧ SameModes s t ∧
        BusAfter [s.hl] [] [readCall s.hl (memRead s.hl s).1 s] s t ∧
        FlagsAre (decide ((memRead s.hl s).1.toNat / 2 ^ b.val % 2 = 0)) false true s.fC t ∧
        Costs (Group.bit b .atHL) 12 s t)

/-- R241, R252, R253: RES b,s and SET b,s on a register (112 instructions) and on the memory byte at HL (16): bit b is
cleared or set and the other bits are kept; on memory one read, then one write, also when the bit already has its value.
That a read-only address keeps its byte is the model's reading of R75 (log 7); behind a device address anything may change
(R306). -/
def Obligations.BitWrites : Prop :=
  ∀ (b : Fin 8) (r : Reg8) (s : State),
    (∀ f ∈ [(Group.res b (.reg r), false, 0x80), (Group.set b (.reg r), true, 0xC0)],
      encode f.1 = [0xCB, BitVec.ofNat 8 (f.2.2 + 8 * b.val + r.code)] ∧
      ∃ t, exec f.1 s = .next t ∧
        (∀ k < 8, (t.reg r).getLsbD k = if k = b.val then f.2.1 else (s.reg r).getLsbD k) ∧
        OnlyRegs [r] s t ∧ SameFlags s t ∧ Costs f.1 8 s t) ∧
    ∀ f ∈ [(Group.res b .atHL, false, 0x86), (Group.set b .atHL, true, 0xC6)],
      encode f.1 = [0xCB, BitVec.ofNat 8 (f.2.2 + 8 * b.val)] ∧
      ∃ (t : State) (res : Byte), exec f.1 s = .next t ∧
        (∀ k < 8, res.getLsbD k = if k = b.val then f.2.1 else (memRead s.hl s).1.getLsbD k) ∧
        SameRegsBut [] s t ∧ t.sp = s.sp ∧ t.pc = s.pc ∧ SameFlags s t ∧ SameModes s t ∧
        BusAfter [s.hl] [s.hl] [readCall s.hl (memRead s.hl s).1 s, writeCall s.hl res (memRead s.hl s).2] s t ∧
        StoredBytes [(s.hl, res)] s t ∧ Costs f.1 16 s t

/-- R114, R242: the bytes 0xCB op2 decode to the extended instruction op2 selects. The second clause is about the constructor
of the prefix byte alone, which is the model's own and which no step executes (log 11): executing it fetches op2 and then
does what that instruction does. -/
def Obligations.PrefixRunsExtendedInstruction : Prop :=
  (∀ (op2 : Byte) (rest : List Byte), decode (0xCB :: op2 :: rest) = .ok (decodeExtended op2, rest)) ∧
  ∀ s : State, ∃ t, exec .cbPrefix s = .next t ∧ exec (decodeExtended (fetch8 s).1) (fetch8 s).2 = .next t

/-! ## One-byte specials -/

/-- R260 to R263: RLCA, RRCA, RLA, RRA: as their prefixed namesakes on A, but Z is forced to 0. -/
def Obligations.AccumulatorRotates : Prop :=
  ∀ (s : State),
    ∀ f ∈ [(Instr.rlca, RotOp.rlc, 0x07), (.rrca, .rrc, 0x0F), (.rla, .rl, 0x17), (.rra, .rr, 0x1F)],
      encode f.1 = [f.2.2] ∧
      ∃ t, exec f.1 s = .next t ∧ t.a.toNat = (rotSpec f.2.1 s.a s.fC).1 ∧ OnlyRegs [.a] s t ∧
        FlagsAre false false false (rotSpec f.2.1 s.a s.fC).2 t ∧ Costs f.1 4 s t

/-- R264: DAA, with the rule's second test in the form a > 0x99 on the unadjusted A, which the rule itself derives to be
equivalent (the spec's inference). N is kept, H is cleared, Z is computed. -/
def Obligations.DecimalAdjust : Prop :=
  ∀ (s : State),
    encode .daa = [0x27] ∧
    ∃ t, exec .daa s = .next t ∧ OnlyRegs [.a] s t ∧
      FlagsAre (decide (t.a = 0)) s.fN false
        (if s.fN then s.fC else s.fC || decide (0x99 < s.a.toNat)) t ∧
      t.a = (if s.fN then s.a - (if s.fH then 6 else 0) - (if s.fC then 0x60 else 0)
        else s.a + (if s.fH || decide (9 < s.a.toNat % 16) then 6 else 0)
          + (if s.fC || decide (0x99 < s.a.toNat) then 0x60 else 0)) ∧
      Costs .daa 4 s t

/-- R264's purpose: after ADD A,B of two decimal numbers, and after SUB B, DAA leaves the two decimal digits of the sum
or the difference in A and the decimal carry or borrow in C. -/
def Obligations.DecimalArithmetic : Prop :=
  ∀ (x y : Nat) (s : State), x < 100 → y < 100 → s.a = bcd x → s.b = bcd y →
    (∃ t, runInstrs [.add_A_B, .daa] s = .next t ∧ t.a = bcd ((x + y) % 100) ∧ t.fC = decide (100 ≤ x + y)) ∧
    (∃ t, runInstrs [.sub_B, .daa] s = .next t ∧ t.a = bcd ((x + 100 - y) % 100) ∧ t.fC = decide (x < y))

/-- R265 to R267: CPL, SCF, CCF. -/
def Obligations.ComplementAndCarry : Prop :=
  ∀ (s : State),
    (encode .cpl = [0x2F] ∧ ∃ t, exec .cpl s = .next t ∧ t.a.toNat = 255 - s.a.toNat ∧ OnlyRegs [.a] s t ∧
      FlagsAre s.fZ true true s.fC t ∧ Costs .cpl 4 s t) ∧
    (encode .scf = [0x37] ∧ ∃ t, exec .scf s = .next t ∧ OnlyRegs [] s t ∧
      FlagsAre s.fZ false false true t ∧ Costs .scf 4 s t) ∧
    (encode .ccf = [0x3F] ∧ ∃ t, exec .ccf s = .next t ∧ OnlyRegs [] s t ∧
      FlagsAre s.fZ false false (!s.fC) t ∧ Costs .ccf 4 s t)

/-- R268 to R270, R272, R273: DI and EI write IME at once, HALT sets halted, STOP and NOP do nothing; each costs 4 and
changes nothing else. -/
def Obligations.ModeInstructions : Prop :=
  ∀ (s : State),
    ∀ f ∈ [(Instr.di, false, s.halted, 0xF3), (.ei, true, s.halted, 0xFB), (.halt, s.ime, true, 0x76),
        (.stop, s.ime, s.halted, 0x10), (.nop, s.ime, s.halted, 0x00)],
      encode f.1 = [f.2.2.2] ∧
      ∃ t, exec f.1 s = .next t ∧ t.ime = f.2.1 ∧ t.halted = f.2.2.1 ∧
        SameRegsBut [] s t ∧ t.sp = s.sp ∧ t.pc = s.pc ∧ SameFlags s t ∧ SameBus s t ∧ Costs f.1 4 s t

/-- R274, R112, R281: each of the eleven unassigned codes reports InvalidOpcode with the opcode as detail and is
otherwise a one-byte no-op of cost 4. -/
def Obligations.UnassignedCodesReport : Prop :=
  ∀ (s : State),
    ∀ f ∈ [(Instr.invalid_D3, (0xD3 : Byte)), (.invalid_DB, 0xDB), (.invalid_DD, 0xDD), (.invalid_E3, 0xE3),
        (.invalid_E4, 0xE4), (.invalid_EB, 0xEB), (.invalid_EC, 0xEC), (.invalid_ED, 0xED), (.invalid_F4, 0xF4),
        (.invalid_FC, 0xFC), (.invalid_FD, 0xFD)],
      encode f.1 = [f.2] ∧
      ∃ t, exec f.1 s = .next t ∧ t.trace = s.trace ++ [.report .invalidOpcode (BitVec.ofNat 16 f.2.toNat)] ∧
        SameRegsBut [] s t ∧ t.sp = s.sp ∧ t.pc = s.pc ∧ SameFlags s t ∧ SameModes s t ∧
        t.mem = s.mem ∧ t.busMap = s.busMap ∧ t.irqPending = s.irqPending ∧ t.irqEnabled = s.irqEnabled ∧
        t.oracle = s.oracle ∧ Costs f.1 4 s t

/-- R50, R51: the only instructions that change IME are DI, EI and RETI, and the only one that changes halted is HALT. -/
def Obligations.OnlyModeInstructionsChangeModes : Prop :=
  ∀ (i : Instr) (s : State), ∃ t, exec i s = .next t ∧
    (t.ime ≠ s.ime → i = .di ∨ i = .ei ∨ i = .reti) ∧ (t.halted ≠ s.halted → i = .halt)

/-! ## Memory -/

/-- R76, R77: a read of an unmapped address gives 0xFF and reports InvalidRead; a write reports InvalidWrite and is
dropped; nothing else changes. An opcode fetched from an unmapped address runs as RST 0x38 (the
spec's inference). -/
def Obligations.UnmappedAccesses : Prop :=
  ∀ (a : Word) (v : Byte) (s : State),
    (s.kindAt a = .unmapped →
      (memRead a s).1 = 0xFF ∧
      (memRead a s).2 = { s with trace := s.trace ++ [.report .invalidRead a] } ∧
      memWrite a v s = { s with trace := s.trace ++ [.report .invalidWrite a] }) ∧
    ((serviceInterrupt s.beginStep).halted = false →
      (serviceInterrupt s.beginStep).kindAt (serviceInterrupt s.beginStep).pc = .unmapped →
      ∃ t, step s = .next t ∧
        exec .rst_38 { serviceInterrupt s.beginStep with
          pc := (serviceInterrupt s.beginStep).pc + 1
          trace := (serviceInterrupt s.beginStep).trace ++
            [.report .invalidRead (serviceInterrupt s.beginStep).pc] } = .next t)

/-- R85 (c): a read of a plain address gives the byte last written there, and a write leaves what every other address
reads. -/
def Obligations.ReadAfterWrite : Prop :=
  ∀ (a b : Word) (v : Byte) (s : State), s.Inv → s.isPlain a →
    (memRead a (memWrite a v s)).1 = v ∧
    (b ≠ a → s.isReadable b → (memRead b (memWrite a v s)).1 = (memRead b s).1) ∧
    (memWrite a v s).Inv

/-! ## The step -/

/-- R298, R106, R117: when the bytes at PC, after the interrupt check, are readable and are the encoding of a complete
instruction, the step is that instruction's execution in the state in which PC is past its bytes and each of them has
been read once, in increasing address order; the count the step returns starts at 0. That the bytes are read before the
execution is the model's reading (log 16). -/
def Obligations.StepRunsEncodedInstruction : Prop :=
  ∀ (s u : State) (i : Instr), i.wf = true → u = serviceInterrupt s.beginStep → u.halted = false →
    bytesAt (encode i) u.pc u →
    step s = exec i { u with
      pc := u.pc + BitVec.ofNat 16 (encode i).length
      trace := u.trace ++ fetchCalls (encode i) u.pc }

/-- R325, R330, R298: no step stops: each answers a next state, whatever its cost. The count it returns, if it fits in the
returned 8 bits, is the interrupt entry's share e, if one was taken, plus 4 if the core is halted after the check, otherwise
the table's cost of the instruction at PC; in the recommended tables that is a multiple of 4 from 4 to 24, and the count
always fits. What a sum past 255 returns the spec does not state (log 22). -/
def Obligations.StepAlwaysReturns : Prop :=
  ∀ (s u : State) (e : Nat), u = serviceInterrupt s.beginStep →
    e = (if s.ime && s.requests != 0 then Config.irqEntryCycles.val else 0) →
    ∃ (t : State) (c : Nat), step s = .next t ∧
      (e + c < 256 → t.cycles.toNat = e + c) ∧
      (u.halted = true → c = 4) ∧
      (u.halted = false → ∃ i : Instr, i.wf = true ∧ encode i = (fetchInstruction u).1 ∧
        c = tableCost i (fetchInstruction u).2) ∧
      (RecommendedCosts s.params → 4 ≤ c ∧ c ≤ 24 ∧ c % 4 = 0 ∧ t.cycles.toNat = e + c)

/-- R271, R305: a step that finds the core halted and no request both pending and enabled costs 4 and does nothing else:
no port call, no change of any register, flag, mode bit or byte of memory. -/
def Obligations.HaltedStepIdles : Prop :=
  ∀ s : State, s.halted = true → s.requests = 0 → step s = .next { s with cycles := 4, trace := [] }

/-- R333 to R335: every complete instruction costs what the tables say for its opcode, with the extra of a taken
conditional transfer: the implementation's tables, and the recommended ones where these are the implementation's. That is said where the
count of the step, which has 8 bits (R16), can hold the sum; what it is otherwise the spec does not state (log 22). -/
def Obligations.CostIsTheTables : Prop :=
  ∀ (i : Instr) (s : State), i.wf = true → ∃ t, exec i s = .next t ∧
    CountGrows (costIn (baseCost s.params) (extendedCost s.params) (takenCost s.params) i s) s t ∧
    (RecommendedCosts s.params → CountGrows (costIn cyclesPrimary cyclesExtended takenExtra i s) s t)

/-- R331: execute_batch(n) is n steps in sequence and the sum of what they return: it always returns, execute_batch(0)
does nothing, and a batch of m + n is a batch of m followed by a batch of n. -/
def Obligations.BatchIsStepsInSequence : Prop :=
  ∀ (m n : Nat) (s : State),
    executeBatch 0 s = .next (0, s) ∧
    (∀ t, step s = .next t → executeBatch 1 s = .next (t.cycles.toNat, t)) ∧
    ∃ (c c' : Nat) (t t' : State), executeBatch m s = .next (c, t) ∧ executeBatch n t = .next (c', t') ∧
      executeBatch (m + n) s = .next (c + c', t')

/-! ## Interrupts -/

/-- R290, R291, R293: without a pending and enabled request, or with IME clear and the core running, the check does
nothing at all; with IME clear and the core halted it clears halted and nothing else. (The remaining case of R290, the
entry, is Obligations.InterruptEntry.) -/
def Obligations.CheckWithoutEntry : Prop :=
  ∀ s : State,
    (s.requests = 0 → serviceInterrupt s = s) ∧
    (s.ime = false → s.halted = false → serviceInterrupt s = s) ∧
    (s.ime = false → s.halted = true → s.requests ≠ 0 → serviceInterrupt s = { s with halted := false })

/-- R292, R286, R288, R78: interrupt entry of the winning line: PC is pushed, IME, halted and the line's request bit are
cleared, control goes to the line's vector, 0x40 + 8 n in the recommended parameters, and nothing else changes (behind the
bus: unless a stack address is a device's, R306). -/
def Obligations.InterruptEntry : Prop :=
  ∀ (n : Fin 5) (s t : State), s.ime = true → IsWinner n s → t = serviceInterrupt s →
    t.ime = false ∧ t.halted = false ∧ t.pc = entryAddress s.params n ∧
    (s.params.irqVector = defaultParams.irqVector → t.pc = BitVec.ofNat 16 (0x40 + 8 * n.val)) ∧
    t.sp = s.sp - 2 ∧ SameRegsBut [] s t ∧ SameFlags s t ∧
    t.trace = s.trace ++
      [writeCall (s.sp - 1) (hi s.pc) s, writeCall (s.sp - 2) (lo s.pc) (memWrite (s.sp - 1) (hi s.pc) s), .irqClear n] ∧
    StoredBytes [(s.sp - 1, hi s.pc), (s.sp - 2, lo s.pc)] s t ∧
    t.irqPending.getLsbD n.val = false ∧
    (s.noDevice [s.sp - 1, s.sp - 2] →
      SameBytesBut [s.sp - 1, s.sp - 2] s t ∧ t.busMap = s.busMap ∧ t.irqEnabled = s.irqEnabled ∧
      t.oracle = s.oracle ∧
      ∀ m : Fin 5, m ≠ n → t.irqPending.getLsbD m.val = s.irqPending.getLsbD m.val) ∧
    CountGrows Config.irqEntryCycles.val s t

/-- R296, R231: a return undoes what a call, a restart or an interrupt entry did, when the two stack bytes are plain
memory: RET after CALL or RST, and RETI after the entry, go on at the address that was pushed with SP as before; RETI also
sets IME again. Registers and flags are as they were: nothing else was saved, and nothing else is restored. -/
def Obligations.ReturnUndoesCallAndEntry : Prop :=
  ∀ (a16 : Word) (y : Fin 8) (n : Fin 5) (s : State),
    Memory.wf s.mem → s.isPlain (s.sp - 1) → s.isPlain (s.sp - 2) →
    (∀ i ∈ [Instr.call_a16 a16, Group.rst y], ∃ t, runInstrs [i, .ret] s = .next t ∧
      t.pc = s.pc ∧ t.sp = s.sp ∧ SameRegsBut [] s t ∧ SameFlags s t ∧ SameModes s t) ∧
    (s.ime = true → IsWinner n s → ∃ t, exec .reti (serviceInterrupt s) = .next t ∧
      t.pc = s.pc ∧ t.sp = s.sp ∧ SameRegsBut [] s t ∧ SameFlags s t ∧ t.ime = true ∧ t.halted = false)

/-- R294: only one interrupt is taken per check: a second check at once does nothing, and every other request is still
pending for a later one. -/
def Obligations.OneInterruptPerCheck : Prop :=
  ∀ s : State, serviceInterrupt (serviceInterrupt s) = serviceInterrupt s ∧
    (s.deviceFree → ∀ m : Fin 5, ¬ IsWinner m s →
      (serviceInterrupt s).irqPending.getLsbD m.val = s.irqPending.getLsbD m.val)

/-- R287, R52: over a whole step the core never raises a request and never writes an enable line; a request bit is
cleared exactly when it is acknowledged: the winning line's, when IME is set. (A device access inside the step may change
the lines, rule R306: the premise leaves it out.) -/
def Obligations.RequestsClearedOnlyByEntry : Prop :=
  ∀ s : State, s.deviceFree → ∃ t, step s = .next t ∧ t.irqEnabled = s.irqEnabled ∧
    ∀ m : Fin 5, t.irqPending.getLsbD m.val = true ↔
      s.irqPending.getLsbD m.val = true ∧ ¬ (s.ime = true ∧ IsWinner m s)

/-! ## Reset, the debug port and the invariant -/

/-- R320: reset replaces the register file by RESET, whose PC is 0x0100 and whose IME and halted are 0, touches nothing
behind the ports, and makes no port call. That the interrupt check of the first step after it does nothing whatever the
lines hold is the spec's own inference (R321). The reset state of the model has these values too. -/
def Obligations.ResetReplacesRegisterFile : Prop :=
  (∀ (r : Config.ResetValues) (s : State),
    ((s.applyReset r).a = r.a ∧ (s.applyReset r).b = r.b ∧ (s.applyReset r).c = r.c ∧ (s.applyReset r).d = r.d ∧
      (s.applyReset r).e = r.e ∧ (s.applyReset r).h = r.h ∧ (s.applyReset r).l = r.l ∧ (s.applyReset r).sp = r.sp) ∧
    (s.applyReset r).pc = 0x0100 ∧ (s.applyReset r).ime = false ∧ (s.applyReset r).halted = false ∧
    FlagsAre r.fZ r.fN r.fH r.fC (s.applyReset r) ∧ SameBus s (s.applyReset r) ∧
    serviceInterrupt (s.applyReset r) = s.applyReset r) ∧
  State.reset.pc = 0x0100 ∧ State.reset.ime = false ∧ State.reset.halted = false

/-- R304: a field written through the debug port reads back as the value truncated to the field's width, and no other
field changes, nor anything behind the ports. -/
def Obligations.DebugPortReadsBack : Prop :=
  ∀ (f g : DbgField) (v : Word) (s : State),
    dbgRead f (dbgWrite f v s) = v &&& dbgMask f ∧ (g ≠ f → dbgRead g (dbgWrite f v s) = dbgRead g s) ∧
      SameBus s (dbgWrite f v s)

/-- The reset state meets the invariant: memory in canonical form, the deferred flag fields consistent (R44). The
canonical form and the empty memory are the model's (log 1). -/
def Obligations.ResetMeetsInvariant : Prop := State.reset.Inv

/-- Every step keeps the invariant, from every state that meets it: memory stays in canonical form, and the result the
deferred flag fields hold stays that of the operation they describe (R44). -/
def Obligations.StepKeepsInvariant : Prop :=
  ∀ s t : State, s.Inv → step s = .next t → t.Inv

/-- Every move of the environment between steps keeps the invariant (R306), so every run of steps and moves does. -/
def Obligations.RunKeepsInvariant : Prop :=
  (∀ (mv : EnvMove) (s : State), s.Inv → (mv.apply s).Inv) ∧
  ∀ (hs : List Happening) (s : State), s.Inv → SafeRun hs s ∧ ∀ t, runHappenings hs s = .next t → t.Inv

/-! ## The parameters -/

/-- R17: nothing writes a parameter: no instruction, no interrupt check, no step, no move of the environment. (That the
parameters stand in the state is the model's choice, log 21.) -/
def Obligations.ParametersAreFixed : Prop :=
  (∀ (i : Instr) (s : State), ∃ t, exec i s = .next t ∧ t.params = s.params) ∧
  (∀ s : State, (serviceInterrupt s).params = s.params) ∧
  (∀ s : State, ∃ t, step s = .next t ∧ t.params = s.params) ∧
  (∀ (mv : EnvMove) (s : State), (mv.apply s).params = s.params)

/-- R17: the recommended values: the vectors, the lines of the five sources, the numbers of the four error kinds, the batch
size and the two addresses; the reset state of the model has them, and their cost tables are those of R333 to R335. -/
def Obligations.RecommendedParameters : Prop :=
  (∀ n : Fin 5, entryAddress defaultParams n = BitVec.ofNat 16 (0x40 + 8 * n.val)) ∧
  (∀ y : Fin 8, restartAddress defaultParams y = BitVec.ofNat 16 (8 * y.val)) ∧
  [IrqSource.verticalBlank, .displayController, .timer, .serial, .inputControl].map (lineOf defaultParams) =
    [0, 1, 2, 3, 4] ∧
  [ErrKind.invalidOpcode, .invalidRead, .invalidWrite, .unknown].map (errorCode defaultParams) = [0, 1, 2, 3] ∧
  defaultParams.batchSize = 3 ∧ defaultParams.ifAddr = 0xFF0F ∧ defaultParams.ieAddr = 0xFFFF ∧
  RecommendedCosts defaultParams ∧ State.reset.params = defaultParams

end
end

