-- ==== Sys2Proof/Laws/Bits.lean ====
section
/-! SUPPORT. Bytes and words as numbers (rules R18, R20). -/

namespace Sys2Proof

@[simp] theorem toNat_hi (v : Word) : (hi v).toNat = v.toNat / 256 := by
  have := v.isLt
  simp only [hi, BitVec.extractLsb'_toNat, Nat.shiftRight_eq_div_pow]
  omega

@[simp] theorem toNat_lo (v : Word) : (lo v).toNat = v.toNat % 256 := by
  simp [lo, BitVec.extractLsb'_toNat]

@[simp] theorem toNat_join (h l : Byte) : (join h l).toNat = h.toNat * 256 + l.toNat := by
  have := l.isLt
  rw [join, BitVec.toNat_append, ← Nat.shiftLeft_add_eq_or_of_lt (by omega), Nat.shiftLeft_eq]

/-- R18: a word is its two bytes. -/
@[simp] theorem join_hi_lo (v : Word) : join (hi v) (lo v) = v := by
  apply BitVec.eq_of_toNat_eq
  simp only [toNat_join, toNat_hi, toNat_lo]
  omega

@[simp] theorem hi_join (h l : Byte) : hi (join h l) = h := by
  have := l.isLt
  apply BitVec.eq_of_toNat_eq
  simp only [toNat_join, toNat_hi]
  omega

@[simp] theorem lo_join (h l : Byte) : lo (join h l) = l := by
  have := l.isLt
  apply BitVec.eq_of_toNat_eq
  simp only [toNat_join, toNat_lo]
  omega

/-- R20: sign extension over the integers. -/
theorem add_sext16 (v : Word) (e : Byte) : v + sext16 e = BitVec.ofInt 16 ((v.toNat : Int) + e.toInt) := by
  have h : sext16 e = BitVec.ofInt 16 e.toInt := by
    simp [sext16, BitVec.signExtend]
  rw [h, BitVec.ofInt_add, BitVec.ofInt_natCast, BitVec.ofNat_toNat, BitVec.setWidth_eq]

/-- The successive bytes of a word push: SP - 1, then SP - 2. -/
theorem sub_one_sub_one (v : Word) : v - 1 - 1 = v - 2 := by bv_omega

/-- The successive bytes of a word pop end at SP + 2. -/
theorem add_one_add_one (v : Word) : v + 1 + 1 = v + 2 := by bv_omega

theorem add_one_ne (v : Word) : v + 1 ≠ v := by bv_omega

theorem sub_one_ne_sub_two (v : Word) : v - 1 ≠ v - 2 := by bv_omega

end Sys2Proof
end

