-- ==== Sys2Proof/Laws/Memory.lean ====
section
/-! SUPPORT. Memory as data: reading after writing, and that a write keeps the canonical form. -/

namespace Sys2Proof.Machine

theorem Memory.read_of_not_mem {m : Memory} {a : Nat} (h : ∀ c ∈ m, c.1 ≠ a) :
    Memory.read m a = Config.unlistedByte := by
  induction m with
  | nil => rfl
  | cons c m ih =>
    have hc : c.1 ≠ a := h c (by simp)
    simp only [Memory.read, if_neg hc]
    exact ih fun d hd => h d (by simp [hd])

/-- A write leaves what every other address reads. No canonical form is needed. -/
theorem Memory.read_write_ne (m : Memory) {a b : Nat} (v : Byte) (h : b ≠ a) :
    Memory.read (Memory.write m a v) b = Memory.read m b := by
  induction m with
  | nil =>
    by_cases hv : v = Config.unlistedByte <;> simp [Memory.write, Memory.read, hv, h.symm]
  | cons c m ih =>
    obtain ⟨k, w⟩ := c
    simp only [Memory.write]
    by_cases hlt : a < k
    · by_cases hv : v = Config.unlistedByte <;> simp [hlt, hv, Memory.read, h.symm]
    · by_cases he : a = k
      · subst he
        by_cases hv : v = Config.unlistedByte <;> simp [hv, Memory.read, h.symm]
      · simp only [if_neg hlt, if_neg he, Memory.read, ih]

theorem Memory.wf_nil : Memory.wf [] := by simp [Memory.wf]

theorem Memory.wf_cons {k : Nat} {w : Byte} {m : Memory} :
    Memory.wf ((k, w) :: m) ↔
      (∀ c ∈ m, k < c.1) ∧ k < 65536 ∧ w ≠ Config.unlistedByte ∧ Memory.wf m := by
  simp only [Memory.wf, List.map_cons, List.pairwise_cons, List.mem_map, List.forall_mem_cons]
  constructor
  · rintro ⟨⟨h1, h2⟩, ⟨h3, h4⟩, h5⟩
    exact ⟨fun c hc => h1 c.1 ⟨c, hc, rfl⟩, h3, h4, h2, h5⟩
  · rintro ⟨h1, h3, h4, h2, h5⟩
    exact ⟨⟨fun a ⟨c, hc, hca⟩ => hca ▸ h1 c hc, h2⟩, ⟨h3, h4⟩, h5⟩

/-- Reading where a byte was written gives that byte. -/
theorem Memory.read_write_eq {m : Memory} (hm : Memory.wf m) (a : Nat) (v : Byte) :
    Memory.read (Memory.write m a v) a = v := by
  induction m with
  | nil => by_cases hv : v = Config.unlistedByte <;> simp [Memory.write, Memory.read, hv]
  | cons c m ih =>
    obtain ⟨k, w⟩ := c
    obtain ⟨hlo, -, -, hm'⟩ := Memory.wf_cons.mp hm
    simp only [Memory.write]
    by_cases hlt : a < k
    · by_cases hv : v = Config.unlistedByte
      · rw [if_pos hlt, if_pos hv, hv]
        apply Memory.read_of_not_mem
        intro c hc
        rcases List.mem_cons.mp hc with rfl | hc
        · exact Nat.ne_of_gt hlt
        · have := hlo c hc
          omega
      · simp [hlt, hv, Memory.read]
    · by_cases he : a = k
      · by_cases hv : v = Config.unlistedByte
        · simp only [if_neg hlt, if_pos he, if_pos hv]
          rw [hv]
          apply Memory.read_of_not_mem
          intro c hc
          have := hlo c hc
          omega
        · simp [he, hv, Memory.read]
      · simp [hlt, he, Memory.read, Ne.symm he, ih hm']

theorem Memory.lt_of_mem_write {m : Memory} {a n : Nat} {v : Byte} (h : ∀ c ∈ m, n < c.1) (ha : n < a) :
    ∀ c ∈ Memory.write m a v, n < c.1 := by
  induction m with
  | nil => by_cases hv : v = Config.unlistedByte <;> simp [Memory.write, hv, ha]
  | cons c m ih =>
    obtain ⟨k, w⟩ := c
    have hk : n < k := h (k, w) (by simp)
    have hm : ∀ c ∈ m, n < c.1 := fun c hc => h c (by simp [hc])
    simp only [Memory.write]
    intro d hd
    split at hd
    · split at hd
      · exact h d hd
      · rcases List.mem_cons.mp hd with rfl | hd
        · exact ha
        · exact h d hd
    · split at hd
      · split at hd
        · exact hm d hd
        · rcases List.mem_cons.mp hd with rfl | hd
          · exact ha
          · exact hm d hd
      · rcases List.mem_cons.mp hd with rfl | hd
        · exact hk
        · exact ih hm d hd

/-- A write keeps the canonical form. -/
theorem Memory.wf_write {m : Memory} (hm : Memory.wf m) {a : Nat} (ha : a < 65536) (v : Byte) :
    Memory.wf (Memory.write m a v) := by
  induction m with
  | nil =>
    by_cases hv : v = Config.unlistedByte
    · simpa [Memory.write, hv] using Memory.wf_nil
    · simp only [Memory.write, if_neg hv]
      exact Memory.wf_cons.mpr ⟨by simp, ha, hv, Memory.wf_nil⟩
  | cons c m ih =>
    obtain ⟨k, w⟩ := c
    obtain ⟨hlo, hk, hw, hm'⟩ := Memory.wf_cons.mp hm
    simp only [Memory.write]
    split
    · rename_i hlt
      split
      · exact hm
      · rename_i hv
        refine Memory.wf_cons.mpr ⟨?_, ha, hv, hm⟩
        intro c hc
        rcases List.mem_cons.mp hc with rfl | hc
        · exact hlt
        · exact Nat.lt_trans hlt (hlo c hc)
    · rename_i hlt
      split
      · rename_i he
        split
        · exact hm'
        · rename_i hv
          exact Memory.wf_cons.mpr ⟨fun c hc => he ▸ hlo c hc, ha, hv, hm'⟩
      · rename_i he
        exact Memory.wf_cons.mpr ⟨Memory.lt_of_mem_write hlo (by omega), hk, hw, ih hm'⟩

/-- A write at a machine address keeps the canonical form. -/
theorem Memory.wf_write_word {m : Memory} (hm : Memory.wf m) (a : Word) (v : Byte) :
    Memory.wf (Memory.write m a.toNat v) :=
  Memory.wf_write hm a.isLt v

/-- Several writes keep the canonical form. -/
theorem Memory.wf_writeAll {m : Memory} (hm : Memory.wf m) (stores : List (Word × Byte)) :
    Memory.wf (m.writeAll stores) := by
  induction stores generalizing m with
  | nil => exact hm
  | cons p stores ih => exact ih (Memory.wf_write_word hm p.1 p.2)

/-- Memories in canonical form that read the same at every address of the address space are the same list. -/
theorem Memory.ext_read {m m' : Memory} (hm : Memory.wf m) (hm' : Memory.wf m')
    (h : ∀ a < 65536, Memory.read m a = Memory.read m' a) : m = m' := by
  induction m generalizing m' with
  | nil =>
    cases m' with
    | nil => rfl
    | cons c m' =>
      obtain ⟨k, w⟩ := c
      obtain ⟨-, hk, hw, -⟩ := Memory.wf_cons.mp hm'
      have := h k hk
      simp [Memory.read] at this
      exact absurd this.symm hw
  | cons c m ih =>
    obtain ⟨k, w⟩ := c
    obtain ⟨hlo, hk, hw, hm2⟩ := Memory.wf_cons.mp hm
    cases m' with
    | nil =>
      have := h k hk
      simp [Memory.read] at this
      exact absurd this hw
    | cons c' m' =>
      obtain ⟨k', w'⟩ := c'
      obtain ⟨hlo', hk', hw', hm2'⟩ := Memory.wf_cons.mp hm'
      have hkk : k = k' := by
        rcases Nat.lt_trichotomy k k' with hlt | he | hlt
        · exfalso
          apply hw
          have := h k hk
          simp only [Memory.read, if_true] at this
          rw [if_neg (by omega), Memory.read_of_not_mem (fun c hc => by have := hlo' c hc; omega)] at this
          exact this
        · exact he
        · exfalso
          apply hw'
          have := h k' hk'
          simp only [Memory.read, if_true] at this
          rw [if_neg (by omega), Memory.read_of_not_mem (fun c hc => by have := hlo c hc; omega)] at this
          exact this.symm
      subst hkk
      have hww : w = w' := by simpa [Memory.read] using h k hk
      subst hww
      congr 1
      refine ih hm2 hm2' fun a ha => ?_
      by_cases hak : k = a
      · subst hak
        rw [Memory.read_of_not_mem (fun c hc => by have := hlo c hc; omega),
          Memory.read_of_not_mem (fun c hc => by have := hlo' c hc; omega)]
      · simpa [Memory.read, hak] using h a ha

/-- The reset memory has the canonical form. -/
theorem Memory.wf_reset : Memory.wf State.reset.mem := Memory.wf_nil

end Sys2Proof.Machine
end

