-- ==== Sys2Proof/Laws/State.lean ====
section
/-! SUPPORT. One lemma for each field and each operation that updates the state, so that no proof unfolds a record update. -/

namespace Sys2Proof.Machine

variable (s : State)

/-! ### log -/

@[simp] theorem State.log_a (ev : PortEvent) : (s.log ev).a = s.a := rfl
@[simp] theorem State.log_b (ev : PortEvent) : (s.log ev).b = s.b := rfl
@[simp] theorem State.log_c (ev : PortEvent) : (s.log ev).c = s.c := rfl
@[simp] theorem State.log_d (ev : PortEvent) : (s.log ev).d = s.d := rfl
@[simp] theorem State.log_e (ev : PortEvent) : (s.log ev).e = s.e := rfl
@[simp] theorem State.log_h (ev : PortEvent) : (s.log ev).h = s.h := rfl
@[simp] theorem State.log_l (ev : PortEvent) : (s.log ev).l = s.l := rfl
@[simp] theorem State.log_sp (ev : PortEvent) : (s.log ev).sp = s.sp := rfl
@[simp] theorem State.log_pc (ev : PortEvent) : (s.log ev).pc = s.pc := rfl
@[simp] theorem State.log_fZ (ev : PortEvent) : (s.log ev).fZ = s.fZ := rfl
@[simp] theorem State.log_nh (ev : PortEvent) : (s.log ev).nh = s.nh := rfl
@[simp] theorem State.log_fC (ev : PortEvent) : (s.log ev).fC = s.fC := rfl
@[simp] theorem State.log_ime (ev : PortEvent) : (s.log ev).ime = s.ime := rfl
@[simp] theorem State.log_halted (ev : PortEvent) : (s.log ev).halted = s.halted := rfl
@[simp] theorem State.log_irqPending (ev : PortEvent) : (s.log ev).irqPending = s.irqPending := rfl
@[simp] theorem State.log_irqEnabled (ev : PortEvent) : (s.log ev).irqEnabled = s.irqEnabled := rfl
@[simp] theorem State.log_mem (ev : PortEvent) : (s.log ev).mem = s.mem := rfl
@[simp] theorem State.log_busMap (ev : PortEvent) : (s.log ev).busMap = s.busMap := rfl
@[simp] theorem State.log_params (ev : PortEvent) : (s.log ev).params = s.params := rfl
@[simp] theorem State.log_cycles (ev : PortEvent) : (s.log ev).cycles = s.cycles := rfl
@[simp] theorem State.log_trace (ev : PortEvent) : (s.log ev).trace = s.trace ++ [ev] := rfl
@[simp] theorem State.log_oracle (ev : PortEvent) : (s.log ev).oracle = s.oracle := rfl

/-! ### report -/

@[simp] theorem State.report_a (kind : ErrKind) (detail : Word) : (s.report kind detail).a = s.a := rfl
@[simp] theorem State.report_b (kind : ErrKind) (detail : Word) : (s.report kind detail).b = s.b := rfl
@[simp] theorem State.report_c (kind : ErrKind) (detail : Word) : (s.report kind detail).c = s.c := rfl
@[simp] theorem State.report_d (kind : ErrKind) (detail : Word) : (s.report kind detail).d = s.d := rfl
@[simp] theorem State.report_e (kind : ErrKind) (detail : Word) : (s.report kind detail).e = s.e := rfl
@[simp] theorem State.report_h (kind : ErrKind) (detail : Word) : (s.report kind detail).h = s.h := rfl
@[simp] theorem State.report_l (kind : ErrKind) (detail : Word) : (s.report kind detail).l = s.l := rfl
@[simp] theorem State.report_sp (kind : ErrKind) (detail : Word) : (s.report kind detail).sp = s.sp := rfl
@[simp] theorem State.report_pc (kind : ErrKind) (detail : Word) : (s.report kind detail).pc = s.pc := rfl
@[simp] theorem State.report_fZ (kind : ErrKind) (detail : Word) : (s.report kind detail).fZ = s.fZ := rfl
@[simp] theorem State.report_nh (kind : ErrKind) (detail : Word) : (s.report kind detail).nh = s.nh := rfl
@[simp] theorem State.report_fC (kind : ErrKind) (detail : Word) : (s.report kind detail).fC = s.fC := rfl
@[simp] theorem State.report_ime (kind : ErrKind) (detail : Word) : (s.report kind detail).ime = s.ime := rfl
@[simp] theorem State.report_halted (kind : ErrKind) (detail : Word) : (s.report kind detail).halted = s.halted := rfl
@[simp] theorem State.report_irqPending (kind : ErrKind) (detail : Word) : (s.report kind detail).irqPending = s.irqPending := rfl
@[simp] theorem State.report_irqEnabled (kind : ErrKind) (detail : Word) : (s.report kind detail).irqEnabled = s.irqEnabled := rfl
@[simp] theorem State.report_mem (kind : ErrKind) (detail : Word) : (s.report kind detail).mem = s.mem := rfl
@[simp] theorem State.report_busMap (kind : ErrKind) (detail : Word) : (s.report kind detail).busMap = s.busMap := rfl
@[simp] theorem State.report_params (kind : ErrKind) (detail : Word) : (s.report kind detail).params = s.params := rfl
@[simp] theorem State.report_cycles (kind : ErrKind) (detail : Word) : (s.report kind detail).cycles = s.cycles := rfl
@[simp] theorem State.report_trace (kind : ErrKind) (detail : Word) : (s.report kind detail).trace = s.trace ++ [.report kind detail] := rfl
@[simp] theorem State.report_oracle (kind : ErrKind) (detail : Word) : (s.report kind detail).oracle = s.oracle := rfl

/-! ### charge -/

@[simp] theorem State.charge_a (n : Nat) : (s.charge n).a = s.a := rfl
@[simp] theorem State.charge_b (n : Nat) : (s.charge n).b = s.b := rfl
@[simp] theorem State.charge_c (n : Nat) : (s.charge n).c = s.c := rfl
@[simp] theorem State.charge_d (n : Nat) : (s.charge n).d = s.d := rfl
@[simp] theorem State.charge_e (n : Nat) : (s.charge n).e = s.e := rfl
@[simp] theorem State.charge_h (n : Nat) : (s.charge n).h = s.h := rfl
@[simp] theorem State.charge_l (n : Nat) : (s.charge n).l = s.l := rfl
@[simp] theorem State.charge_sp (n : Nat) : (s.charge n).sp = s.sp := rfl
@[simp] theorem State.charge_pc (n : Nat) : (s.charge n).pc = s.pc := rfl
@[simp] theorem State.charge_fZ (n : Nat) : (s.charge n).fZ = s.fZ := rfl
@[simp] theorem State.charge_nh (n : Nat) : (s.charge n).nh = s.nh := rfl
@[simp] theorem State.charge_fC (n : Nat) : (s.charge n).fC = s.fC := rfl
@[simp] theorem State.charge_ime (n : Nat) : (s.charge n).ime = s.ime := rfl
@[simp] theorem State.charge_halted (n : Nat) : (s.charge n).halted = s.halted := rfl
@[simp] theorem State.charge_irqPending (n : Nat) : (s.charge n).irqPending = s.irqPending := rfl
@[simp] theorem State.charge_irqEnabled (n : Nat) : (s.charge n).irqEnabled = s.irqEnabled := rfl
@[simp] theorem State.charge_mem (n : Nat) : (s.charge n).mem = s.mem := rfl
@[simp] theorem State.charge_busMap (n : Nat) : (s.charge n).busMap = s.busMap := rfl
@[simp] theorem State.charge_params (n : Nat) : (s.charge n).params = s.params := rfl
@[simp] theorem State.charge_cycles (n : Nat) : (s.charge n).cycles = addCount s.cycles n := rfl
@[simp] theorem State.charge_trace (n : Nat) : (s.charge n).trace = s.trace := rfl
@[simp] theorem State.charge_oracle (n : Nat) : (s.charge n).oracle = s.oracle := rfl

/-! ### deviceAccess -/

@[simp] theorem State.deviceAccess_a (call : Config.DeviceCall) : (s.deviceAccess call).a = s.a := rfl
@[simp] theorem State.deviceAccess_b (call : Config.DeviceCall) : (s.deviceAccess call).b = s.b := rfl
@[simp] theorem State.deviceAccess_c (call : Config.DeviceCall) : (s.deviceAccess call).c = s.c := rfl
@[simp] theorem State.deviceAccess_d (call : Config.DeviceCall) : (s.deviceAccess call).d = s.d := rfl
@[simp] theorem State.deviceAccess_e (call : Config.DeviceCall) : (s.deviceAccess call).e = s.e := rfl
@[simp] theorem State.deviceAccess_h (call : Config.DeviceCall) : (s.deviceAccess call).h = s.h := rfl
@[simp] theorem State.deviceAccess_l (call : Config.DeviceCall) : (s.deviceAccess call).l = s.l := rfl
@[simp] theorem State.deviceAccess_sp (call : Config.DeviceCall) : (s.deviceAccess call).sp = s.sp := rfl
@[simp] theorem State.deviceAccess_pc (call : Config.DeviceCall) : (s.deviceAccess call).pc = s.pc := rfl
@[simp] theorem State.deviceAccess_fZ (call : Config.DeviceCall) : (s.deviceAccess call).fZ = s.fZ := rfl
@[simp] theorem State.deviceAccess_nh (call : Config.DeviceCall) : (s.deviceAccess call).nh = s.nh := rfl
@[simp] theorem State.deviceAccess_fC (call : Config.DeviceCall) : (s.deviceAccess call).fC = s.fC := rfl
@[simp] theorem State.deviceAccess_ime (call : Config.DeviceCall) : (s.deviceAccess call).ime = s.ime := rfl
@[simp] theorem State.deviceAccess_halted (call : Config.DeviceCall) : (s.deviceAccess call).halted = s.halted := rfl
@[simp] theorem State.deviceAccess_irqPending (call : Config.DeviceCall) : (s.deviceAccess call).irqPending = (Config.deviceResponse s.oracle call).pending := rfl
@[simp] theorem State.deviceAccess_irqEnabled (call : Config.DeviceCall) : (s.deviceAccess call).irqEnabled = (Config.deviceResponse s.oracle call).enabled := rfl
@[simp] theorem State.deviceAccess_mem (call : Config.DeviceCall) : (s.deviceAccess call).mem = Memory.writeAll s.mem (Config.deviceResponse s.oracle call).stores := rfl
@[simp] theorem State.deviceAccess_busMap (call : Config.DeviceCall) : (s.deviceAccess call).busMap = (Config.deviceResponse s.oracle call).remaps ++ s.busMap := rfl
@[simp] theorem State.deviceAccess_params (call : Config.DeviceCall) : (s.deviceAccess call).params = s.params := rfl
@[simp] theorem State.deviceAccess_cycles (call : Config.DeviceCall) : (s.deviceAccess call).cycles = s.cycles := rfl
@[simp] theorem State.deviceAccess_trace (call : Config.DeviceCall) : (s.deviceAccess call).trace = s.trace := rfl
@[simp] theorem State.deviceAccess_oracle (call : Config.DeviceCall) : (s.deviceAccess call).oracle = s.oracle + 1 := rfl

/-! ### clearRequest -/

@[simp] theorem State.clearRequest_a (n : Fin 5) : (s.clearRequest n).a = s.a := rfl
@[simp] theorem State.clearRequest_b (n : Fin 5) : (s.clearRequest n).b = s.b := rfl
@[simp] theorem State.clearRequest_c (n : Fin 5) : (s.clearRequest n).c = s.c := rfl
@[simp] theorem State.clearRequest_d (n : Fin 5) : (s.clearRequest n).d = s.d := rfl
@[simp] theorem State.clearRequest_e (n : Fin 5) : (s.clearRequest n).e = s.e := rfl
@[simp] theorem State.clearRequest_h (n : Fin 5) : (s.clearRequest n).h = s.h := rfl
@[simp] theorem State.clearRequest_l (n : Fin 5) : (s.clearRequest n).l = s.l := rfl
@[simp] theorem State.clearRequest_sp (n : Fin 5) : (s.clearRequest n).sp = s.sp := rfl
@[simp] theorem State.clearRequest_pc (n : Fin 5) : (s.clearRequest n).pc = s.pc := rfl
@[simp] theorem State.clearRequest_fZ (n : Fin 5) : (s.clearRequest n).fZ = s.fZ := rfl
@[simp] theorem State.clearRequest_nh (n : Fin 5) : (s.clearRequest n).nh = s.nh := rfl
@[simp] theorem State.clearRequest_fC (n : Fin 5) : (s.clearRequest n).fC = s.fC := rfl
@[simp] theorem State.clearRequest_ime (n : Fin 5) : (s.clearRequest n).ime = s.ime := rfl
@[simp] theorem State.clearRequest_halted (n : Fin 5) : (s.clearRequest n).halted = s.halted := rfl
@[simp] theorem State.clearRequest_irqPending (n : Fin 5) : (s.clearRequest n).irqPending = s.irqPending &&& ~~~(1#5 <<< n.val) := rfl
@[simp] theorem State.clearRequest_irqEnabled (n : Fin 5) : (s.clearRequest n).irqEnabled = s.irqEnabled := rfl
@[simp] theorem State.clearRequest_mem (n : Fin 5) : (s.clearRequest n).mem = s.mem := rfl
@[simp] theorem State.clearRequest_busMap (n : Fin 5) : (s.clearRequest n).busMap = s.busMap := rfl
@[simp] theorem State.clearRequest_params (n : Fin 5) : (s.clearRequest n).params = s.params := rfl
@[simp] theorem State.clearRequest_cycles (n : Fin 5) : (s.clearRequest n).cycles = s.cycles := rfl
@[simp] theorem State.clearRequest_trace (n : Fin 5) : (s.clearRequest n).trace = s.trace ++ [.irqClear n] := rfl
@[simp] theorem State.clearRequest_oracle (n : Fin 5) : (s.clearRequest n).oracle = s.oracle := rfl

/-! ### beginStep -/

@[simp] theorem State.beginStep_a : (s.beginStep).a = s.a := rfl
@[simp] theorem State.beginStep_b : (s.beginStep).b = s.b := rfl
@[simp] theorem State.beginStep_c : (s.beginStep).c = s.c := rfl
@[simp] theorem State.beginStep_d : (s.beginStep).d = s.d := rfl
@[simp] theorem State.beginStep_e : (s.beginStep).e = s.e := rfl
@[simp] theorem State.beginStep_h : (s.beginStep).h = s.h := rfl
@[simp] theorem State.beginStep_l : (s.beginStep).l = s.l := rfl
@[simp] theorem State.beginStep_sp : (s.beginStep).sp = s.sp := rfl
@[simp] theorem State.beginStep_pc : (s.beginStep).pc = s.pc := rfl
@[simp] theorem State.beginStep_fZ : (s.beginStep).fZ = s.fZ := rfl
@[simp] theorem State.beginStep_nh : (s.beginStep).nh = s.nh := rfl
@[simp] theorem State.beginStep_fC : (s.beginStep).fC = s.fC := rfl
@[simp] theorem State.beginStep_ime : (s.beginStep).ime = s.ime := rfl
@[simp] theorem State.beginStep_halted : (s.beginStep).halted = s.halted := rfl
@[simp] theorem State.beginStep_irqPending : (s.beginStep).irqPending = s.irqPending := rfl
@[simp] theorem State.beginStep_irqEnabled : (s.beginStep).irqEnabled = s.irqEnabled := rfl
@[simp] theorem State.beginStep_mem : (s.beginStep).mem = s.mem := rfl
@[simp] theorem State.beginStep_busMap : (s.beginStep).busMap = s.busMap := rfl
@[simp] theorem State.beginStep_params : (s.beginStep).params = s.params := rfl
@[simp] theorem State.beginStep_cycles : (s.beginStep).cycles = 0 := rfl
@[simp] theorem State.beginStep_trace : (s.beginStep).trace = [] := rfl
@[simp] theorem State.beginStep_oracle : (s.beginStep).oracle = s.oracle := rfl

/-! ### setFlags -/

@[simp] theorem State.setFlags_a (z n h c : Bool) (d : Deferred) : (s.setFlags z n h c d).a = s.a := rfl
@[simp] theorem State.setFlags_b (z n h c : Bool) (d : Deferred) : (s.setFlags z n h c d).b = s.b := rfl
@[simp] theorem State.setFlags_c (z n h c : Bool) (d : Deferred) : (s.setFlags z n h c d).c = s.c := rfl
@[simp] theorem State.setFlags_d (z n h c : Bool) (d : Deferred) : (s.setFlags z n h c d).d = s.d := rfl
@[simp] theorem State.setFlags_e (z n h c : Bool) (d : Deferred) : (s.setFlags z n h c d).e = s.e := rfl
@[simp] theorem State.setFlags_h (z n h c : Bool) (d : Deferred) : (s.setFlags z n h c d).h = s.h := rfl
@[simp] theorem State.setFlags_l (z n h c : Bool) (d : Deferred) : (s.setFlags z n h c d).l = s.l := rfl
@[simp] theorem State.setFlags_sp (z n h c : Bool) (d : Deferred) : (s.setFlags z n h c d).sp = s.sp := rfl
@[simp] theorem State.setFlags_pc (z n h c : Bool) (d : Deferred) : (s.setFlags z n h c d).pc = s.pc := rfl
@[simp] theorem State.setFlags_fZ (z n h c : Bool) (d : Deferred) : (s.setFlags z n h c d).fZ = z := rfl
@[simp] theorem State.setFlags_nh (z n h c : Bool) (d : Deferred) : (s.setFlags z n h c d).nh = s.nh.write n h d := rfl
@[simp] theorem State.setFlags_fC (z n h c : Bool) (d : Deferred) : (s.setFlags z n h c d).fC = c := rfl
@[simp] theorem State.setFlags_ime (z n h c : Bool) (d : Deferred) : (s.setFlags z n h c d).ime = s.ime := rfl
@[simp] theorem State.setFlags_halted (z n h c : Bool) (d : Deferred) : (s.setFlags z n h c d).halted = s.halted := rfl
@[simp] theorem State.setFlags_irqPending (z n h c : Bool) (d : Deferred) : (s.setFlags z n h c d).irqPending = s.irqPending := rfl
@[simp] theorem State.setFlags_irqEnabled (z n h c : Bool) (d : Deferred) : (s.setFlags z n h c d).irqEnabled = s.irqEnabled := rfl
@[simp] theorem State.setFlags_mem (z n h c : Bool) (d : Deferred) : (s.setFlags z n h c d).mem = s.mem := rfl
@[simp] theorem State.setFlags_busMap (z n h c : Bool) (d : Deferred) : (s.setFlags z n h c d).busMap = s.busMap := rfl
@[simp] theorem State.setFlags_params (z n h c : Bool) (d : Deferred) : (s.setFlags z n h c d).params = s.params := rfl
@[simp] theorem State.setFlags_cycles (z n h c : Bool) (d : Deferred) : (s.setFlags z n h c d).cycles = s.cycles := rfl
@[simp] theorem State.setFlags_trace (z n h c : Bool) (d : Deferred) : (s.setFlags z n h c d).trace = s.trace := rfl
@[simp] theorem State.setFlags_oracle (z n h c : Bool) (d : Deferred) : (s.setFlags z n h c d).oracle = s.oracle := rfl

/-! ### setConstFlags -/

@[simp] theorem State.setConstFlags_a (z n h c : Bool) : (s.setConstFlags z n h c).a = s.a := rfl
@[simp] theorem State.setConstFlags_b (z n h c : Bool) : (s.setConstFlags z n h c).b = s.b := rfl
@[simp] theorem State.setConstFlags_c (z n h c : Bool) : (s.setConstFlags z n h c).c = s.c := rfl
@[simp] theorem State.setConstFlags_d (z n h c : Bool) : (s.setConstFlags z n h c).d = s.d := rfl
@[simp] theorem State.setConstFlags_e (z n h c : Bool) : (s.setConstFlags z n h c).e = s.e := rfl
@[simp] theorem State.setConstFlags_h (z n h c : Bool) : (s.setConstFlags z n h c).h = s.h := rfl
@[simp] theorem State.setConstFlags_l (z n h c : Bool) : (s.setConstFlags z n h c).l = s.l := rfl
@[simp] theorem State.setConstFlags_sp (z n h c : Bool) : (s.setConstFlags z n h c).sp = s.sp := rfl
@[simp] theorem State.setConstFlags_pc (z n h c : Bool) : (s.setConstFlags z n h c).pc = s.pc := rfl
@[simp] theorem State.setConstFlags_fZ (z n h c : Bool) : (s.setConstFlags z n h c).fZ = z := rfl
@[simp] theorem State.setConstFlags_nh (z n h c : Bool) : (s.setConstFlags z n h c).nh = s.nh.write n h (Deferred.canonical n h) := rfl
@[simp] theorem State.setConstFlags_fC (z n h c : Bool) : (s.setConstFlags z n h c).fC = c := rfl
@[simp] theorem State.setConstFlags_ime (z n h c : Bool) : (s.setConstFlags z n h c).ime = s.ime := rfl
@[simp] theorem State.setConstFlags_halted (z n h c : Bool) : (s.setConstFlags z n h c).halted = s.halted := rfl
@[simp] theorem State.setConstFlags_irqPending (z n h c : Bool) : (s.setConstFlags z n h c).irqPending = s.irqPending := rfl
@[simp] theorem State.setConstFlags_irqEnabled (z n h c : Bool) : (s.setConstFlags z n h c).irqEnabled = s.irqEnabled := rfl
@[simp] theorem State.setConstFlags_mem (z n h c : Bool) : (s.setConstFlags z n h c).mem = s.mem := rfl
@[simp] theorem State.setConstFlags_busMap (z n h c : Bool) : (s.setConstFlags z n h c).busMap = s.busMap := rfl
@[simp] theorem State.setConstFlags_params (z n h c : Bool) : (s.setConstFlags z n h c).params = s.params := rfl
@[simp] theorem State.setConstFlags_cycles (z n h c : Bool) : (s.setConstFlags z n h c).cycles = s.cycles := rfl
@[simp] theorem State.setConstFlags_trace (z n h c : Bool) : (s.setConstFlags z n h c).trace = s.trace := rfl
@[simp] theorem State.setConstFlags_oracle (z n h c : Bool) : (s.setConstFlags z n h c).oracle = s.oracle := rfl

/-! ### setBC -/

@[simp] theorem State.setBC_a (v : Word) : (s.setBC v).a = s.a := rfl
@[simp] theorem State.setBC_b (v : Word) : (s.setBC v).b = hi v := rfl
@[simp] theorem State.setBC_c (v : Word) : (s.setBC v).c = lo v := rfl
@[simp] theorem State.setBC_d (v : Word) : (s.setBC v).d = s.d := rfl
@[simp] theorem State.setBC_e (v : Word) : (s.setBC v).e = s.e := rfl
@[simp] theorem State.setBC_h (v : Word) : (s.setBC v).h = s.h := rfl
@[simp] theorem State.setBC_l (v : Word) : (s.setBC v).l = s.l := rfl
@[simp] theorem State.setBC_sp (v : Word) : (s.setBC v).sp = s.sp := rfl
@[simp] theorem State.setBC_pc (v : Word) : (s.setBC v).pc = s.pc := rfl
@[simp] theorem State.setBC_fZ (v : Word) : (s.setBC v).fZ = s.fZ := rfl
@[simp] theorem State.setBC_nh (v : Word) : (s.setBC v).nh = s.nh := rfl
@[simp] theorem State.setBC_fC (v : Word) : (s.setBC v).fC = s.fC := rfl
@[simp] theorem State.setBC_ime (v : Word) : (s.setBC v).ime = s.ime := rfl
@[simp] theorem State.setBC_halted (v : Word) : (s.setBC v).halted = s.halted := rfl
@[simp] theorem State.setBC_irqPending (v : Word) : (s.setBC v).irqPending = s.irqPending := rfl
@[simp] theorem State.setBC_irqEnabled (v : Word) : (s.setBC v).irqEnabled = s.irqEnabled := rfl
@[simp] theorem State.setBC_mem (v : Word) : (s.setBC v).mem = s.mem := rfl
@[simp] theorem State.setBC_busMap (v : Word) : (s.setBC v).busMap = s.busMap := rfl
@[simp] theorem State.setBC_params (v : Word) : (s.setBC v).params = s.params := rfl
@[simp] theorem State.setBC_cycles (v : Word) : (s.setBC v).cycles = s.cycles := rfl
@[simp] theorem State.setBC_trace (v : Word) : (s.setBC v).trace = s.trace := rfl
@[simp] theorem State.setBC_oracle (v : Word) : (s.setBC v).oracle = s.oracle := rfl

/-! ### setDE -/

@[simp] theorem State.setDE_a (v : Word) : (s.setDE v).a = s.a := rfl
@[simp] theorem State.setDE_b (v : Word) : (s.setDE v).b = s.b := rfl
@[simp] theorem State.setDE_c (v : Word) : (s.setDE v).c = s.c := rfl
@[simp] theorem State.setDE_d (v : Word) : (s.setDE v).d = hi v := rfl
@[simp] theorem State.setDE_e (v : Word) : (s.setDE v).e = lo v := rfl
@[simp] theorem State.setDE_h (v : Word) : (s.setDE v).h = s.h := rfl
@[simp] theorem State.setDE_l (v : Word) : (s.setDE v).l = s.l := rfl
@[simp] theorem State.setDE_sp (v : Word) : (s.setDE v).sp = s.sp := rfl
@[simp] theorem State.setDE_pc (v : Word) : (s.setDE v).pc = s.pc := rfl
@[simp] theorem State.setDE_fZ (v : Word) : (s.setDE v).fZ = s.fZ := rfl
@[simp] theorem State.setDE_nh (v : Word) : (s.setDE v).nh = s.nh := rfl
@[simp] theorem State.setDE_fC (v : Word) : (s.setDE v).fC = s.fC := rfl
@[simp] theorem State.setDE_ime (v : Word) : (s.setDE v).ime = s.ime := rfl
@[simp] theorem State.setDE_halted (v : Word) : (s.setDE v).halted = s.halted := rfl
@[simp] theorem State.setDE_irqPending (v : Word) : (s.setDE v).irqPending = s.irqPending := rfl
@[simp] theorem State.setDE_irqEnabled (v : Word) : (s.setDE v).irqEnabled = s.irqEnabled := rfl
@[simp] theorem State.setDE_mem (v : Word) : (s.setDE v).mem = s.mem := rfl
@[simp] theorem State.setDE_busMap (v : Word) : (s.setDE v).busMap = s.busMap := rfl
@[simp] theorem State.setDE_params (v : Word) : (s.setDE v).params = s.params := rfl
@[simp] theorem State.setDE_cycles (v : Word) : (s.setDE v).cycles = s.cycles := rfl
@[simp] theorem State.setDE_trace (v : Word) : (s.setDE v).trace = s.trace := rfl
@[simp] theorem State.setDE_oracle (v : Word) : (s.setDE v).oracle = s.oracle := rfl

/-! ### setHL -/

@[simp] theorem State.setHL_a (v : Word) : (s.setHL v).a = s.a := rfl
@[simp] theorem State.setHL_b (v : Word) : (s.setHL v).b = s.b := rfl
@[simp] theorem State.setHL_c (v : Word) : (s.setHL v).c = s.c := rfl
@[simp] theorem State.setHL_d (v : Word) : (s.setHL v).d = s.d := rfl
@[simp] theorem State.setHL_e (v : Word) : (s.setHL v).e = s.e := rfl
@[simp] theorem State.setHL_h (v : Word) : (s.setHL v).h = hi v := rfl
@[simp] theorem State.setHL_l (v : Word) : (s.setHL v).l = lo v := rfl
@[simp] theorem State.setHL_sp (v : Word) : (s.setHL v).sp = s.sp := rfl
@[simp] theorem State.setHL_pc (v : Word) : (s.setHL v).pc = s.pc := rfl
@[simp] theorem State.setHL_fZ (v : Word) : (s.setHL v).fZ = s.fZ := rfl
@[simp] theorem State.setHL_nh (v : Word) : (s.setHL v).nh = s.nh := rfl
@[simp] theorem State.setHL_fC (v : Word) : (s.setHL v).fC = s.fC := rfl
@[simp] theorem State.setHL_ime (v : Word) : (s.setHL v).ime = s.ime := rfl
@[simp] theorem State.setHL_halted (v : Word) : (s.setHL v).halted = s.halted := rfl
@[simp] theorem State.setHL_irqPending (v : Word) : (s.setHL v).irqPending = s.irqPending := rfl
@[simp] theorem State.setHL_irqEnabled (v : Word) : (s.setHL v).irqEnabled = s.irqEnabled := rfl
@[simp] theorem State.setHL_mem (v : Word) : (s.setHL v).mem = s.mem := rfl
@[simp] theorem State.setHL_busMap (v : Word) : (s.setHL v).busMap = s.busMap := rfl
@[simp] theorem State.setHL_params (v : Word) : (s.setHL v).params = s.params := rfl
@[simp] theorem State.setHL_cycles (v : Word) : (s.setHL v).cycles = s.cycles := rfl
@[simp] theorem State.setHL_trace (v : Word) : (s.setHL v).trace = s.trace := rfl
@[simp] theorem State.setHL_oracle (v : Word) : (s.setHL v).oracle = s.oracle := rfl

/-! ### The costs of rules R333 to R335 -/

/-- R16: the count is the sum where it fits in 8 bits. -/
theorem addCount_toNat {count : Byte} {n : Nat} (h : count.toNat + n < 256) :
    (addCount count n).toNat = count.toNat + n := by
  rw [addCount, if_pos h, BitVec.toNat_ofNat, Nat.mod_eq_of_lt h]

@[simp] theorem State.chargeBase_eq (op : Byte) : s.chargeBase op = s.charge (baseCost s.params op) := rfl
@[simp] theorem State.chargeTransfer_eq (op : Byte) (taken : Bool) : s.chargeTransfer op taken =
    s.charge (if taken then baseCost s.params op + takenCost s.params op else baseCost s.params op) := rfl
@[simp] theorem State.chargeExtended_eq (op2 : Byte) : s.chargeExtended op2 = s.charge (extendedCost s.params op2) := rfl

/-! ### setReg -/

@[simp] theorem State.setReg_sp (r : Reg8) (v : Byte) : (s.setReg r v).sp = s.sp := by cases r <;> rfl
@[simp] theorem State.setReg_pc (r : Reg8) (v : Byte) : (s.setReg r v).pc = s.pc := by cases r <;> rfl
@[simp] theorem State.setReg_fZ (r : Reg8) (v : Byte) : (s.setReg r v).fZ = s.fZ := by cases r <;> rfl
@[simp] theorem State.setReg_nh (r : Reg8) (v : Byte) : (s.setReg r v).nh = s.nh := by cases r <;> rfl
@[simp] theorem State.setReg_fC (r : Reg8) (v : Byte) : (s.setReg r v).fC = s.fC := by cases r <;> rfl
@[simp] theorem State.setReg_ime (r : Reg8) (v : Byte) : (s.setReg r v).ime = s.ime := by cases r <;> rfl
@[simp] theorem State.setReg_halted (r : Reg8) (v : Byte) : (s.setReg r v).halted = s.halted := by cases r <;> rfl
@[simp] theorem State.setReg_irqPending (r : Reg8) (v : Byte) : (s.setReg r v).irqPending = s.irqPending := by cases r <;> rfl
@[simp] theorem State.setReg_irqEnabled (r : Reg8) (v : Byte) : (s.setReg r v).irqEnabled = s.irqEnabled := by cases r <;> rfl
@[simp] theorem State.setReg_mem (r : Reg8) (v : Byte) : (s.setReg r v).mem = s.mem := by cases r <;> rfl
@[simp] theorem State.setReg_busMap (r : Reg8) (v : Byte) : (s.setReg r v).busMap = s.busMap := by cases r <;> rfl
@[simp] theorem State.setReg_params (r : Reg8) (v : Byte) : (s.setReg r v).params = s.params := by cases r <;> rfl
@[simp] theorem State.setReg_cycles (r : Reg8) (v : Byte) : (s.setReg r v).cycles = s.cycles := by cases r <;> rfl
@[simp] theorem State.setReg_trace (r : Reg8) (v : Byte) : (s.setReg r v).trace = s.trace := by cases r <;> rfl
@[simp] theorem State.setReg_oracle (r : Reg8) (v : Byte) : (s.setReg r v).oracle = s.oracle := by cases r <;> rfl

theorem State.reg_setReg (r q : Reg8) (v : Byte) :
    (s.setReg r v).reg q = if q = r then v else s.reg q := by
  cases r <;> cases q <;> rfl

@[simp] theorem State.reg_setReg_eq (r : Reg8) (v : Byte) : (s.setReg r v).reg r = v := by
  cases r <;> rfl

theorem State.reg_setReg_ne {r q : Reg8} (v : Byte) (h : q ≠ r) : (s.setReg r v).reg q = s.reg q := by
  rw [State.reg_setReg, if_neg h]

/-! ### Registers and pairs through the operations that leave them -/


@[simp] theorem State.reg_charge (r : Reg8) (n : Nat) : (s.charge n).reg r = s.reg r := by cases r <;> rfl
@[simp] theorem State.reg_log (r : Reg8) (ev : PortEvent) : (s.log ev).reg r = s.reg r := by cases r <;> rfl
@[simp] theorem State.reg_setFlags (r : Reg8) (z n h c : Bool) (d : Deferred) :
    (s.setFlags z n h c d).reg r = s.reg r := by cases r <;> rfl
@[simp] theorem State.reg_setConstFlags (r : Reg8) (z n h c : Bool) :
    (s.setConstFlags z n h c).reg r = s.reg r := by cases r <;> rfl
@[simp] theorem State.hl_charge (n : Nat) : (s.charge n).hl = s.hl := rfl
@[simp] theorem State.hl_setHL (v : Word) : (s.setHL v).hl = v := join_hi_lo v
@[simp] theorem State.bc_setBC (v : Word) : (s.setBC v).bc = v := join_hi_lo v
@[simp] theorem State.de_setDE (v : Word) : (s.setDE v).de = v := join_hi_lo v

/-- R32: a pair reads as it was written. -/
@[simp] theorem State.pair_setPair (p : Pair) (v : Word) : (s.setPair p v).pair p = v := by
  cases p <;> simp [State.setPair, State.pair]

/-- R32: writing a pair leaves the other pairs. -/
theorem State.pair_setPair_ne {p q : Pair} (v : Word) (h : q ≠ p) : (s.setPair p v).pair q = s.pair q := by
  cases p <;> cases q <;> first | exact absurd rfl h | rfl

end Sys2Proof.Machine
end

