-- ==== Sys2Proof/Laws/Bus.lean ====
section
/-! SUPPORT. What one access, a push, a pop and a fetch can do: one lemma for each, and their composition. -/

namespace Sys2Proof.Machine

/-! ## Frames -/

section Frames

variable {s t u : State}

theorem SameBus.refl (s : State) : SameBus s s := ⟨rfl, rfl, rfl, rfl, rfl, rfl⟩

theorem SameBytesBut.refl (l : List Word) (s : State) : SameBytesBut l s s := fun _ _ => rfl

theorem kindAt_of_busMap (h : t.busMap = s.busMap) (a : Word) : t.kindAt a = s.kindAt a := by
  simp only [State.kindAt, h]

theorem byteAt_of_mem (h : t.mem = s.mem) (a : Word) : t.byteAt a = s.byteAt a := by
  simp only [State.byteAt, h]

theorem noDevice_of_busMap {A : List Word} (h : t.busMap = s.busMap) (hd : s.noDevice A) : t.noDevice A :=
  fun a ha => by
    rw [kindAt_of_busMap h]
    exact hd a ha

theorem State.noDevice_append {A A' : List Word} : s.noDevice (A ++ A') ↔ s.noDevice A ∧ s.noDevice A' := by
  simp only [State.noDevice, List.mem_append, or_imp, forall_and]

/-- No access at all. -/
theorem SameBus.busAfter (h : SameBus s t) : BusAfter [] [] [] s t :=
  ⟨by simp [h.2.2.2.2.2], fun _ => ⟨fun a _ => byteAt_of_mem h.1 a, h.2.1, h.2.2.1, h.2.2.2.1, h.2.2.2.2.1⟩⟩

/-- One access after another. -/
theorem BusAfter.trans {A A' W W' : List Word} {C C' : List PortEvent} (h : BusAfter A W C s t)
    (h' : BusAfter A' W' C' t u) : BusAfter (A ++ A') (W ++ W') (C ++ C') s u := by
  refine ⟨by rw [h'.1, h.1, List.append_assoc], fun hd => ?_⟩
  obtain ⟨hA, hA'⟩ := State.noDevice_append.mp hd
  obtain ⟨h3, h1, p1, p2, p3⟩ := h.2 hA
  obtain ⟨k3, k1, q1, q2, q3⟩ := h'.2 (noDevice_of_busMap h1 hA')
  refine ⟨fun a ha => ?_, k1.trans h1, q1.trans p1, q2.trans p2, q3.trans p3⟩
  rw [List.mem_append, not_or] at ha
  rw [k3 a ha.2, h3 a ha.1]

/-- Changes on the core's side of the bus after the accesses. -/
theorem BusAfter.then_same {A W : List Word} {C : List PortEvent} (h : BusAfter A W C s t) (h' : SameBus t u) :
    BusAfter A W C s u := by
  simpa using h.trans h'.busAfter

/-- Changes on the core's side of the bus before the accesses. -/
theorem BusAfter.after_same {A W : List Word} {C : List PortEvent} (h' : SameBus s t) (h : BusAfter A W C t u) :
    BusAfter A W C s u := by
  simpa using h'.busAfter.trans h

end Frames

/-! ## A device access -/

/-- R306: the side effects of a device access keep memory in canonical form. -/
theorem deviceAccess_wf {s : State} (call : Config.DeviceCall) (hm : Memory.wf s.mem) :
    Memory.wf (s.deviceAccess call).mem :=
  Memory.wf_writeAll hm _

/-! ## One read -/

section Read

variable (a : Word) (s : State)

/-- All a read can change: the trace, and behind a device the interrupt lines, memory, its map and the oracle. -/
theorem memRead_snd : ∃ p e m b o tr, (memRead a s).2 =
    { s with irqPending := p, irqEnabled := e, mem := m, busMap := b, oracle := o, trace := tr } := by
  unfold memRead
  split <;> exact ⟨_, _, _, _, _, _, rfl⟩

@[simp] theorem memRead_a : (memRead a s).2.a = s.a := by unfold memRead; split <;> rfl
@[simp] theorem memRead_b : (memRead a s).2.b = s.b := by unfold memRead; split <;> rfl
@[simp] theorem memRead_c : (memRead a s).2.c = s.c := by unfold memRead; split <;> rfl
@[simp] theorem memRead_d : (memRead a s).2.d = s.d := by unfold memRead; split <;> rfl
@[simp] theorem memRead_e : (memRead a s).2.e = s.e := by unfold memRead; split <;> rfl
@[simp] theorem memRead_h : (memRead a s).2.h = s.h := by unfold memRead; split <;> rfl
@[simp] theorem memRead_l : (memRead a s).2.l = s.l := by unfold memRead; split <;> rfl
@[simp] theorem memRead_sp : (memRead a s).2.sp = s.sp := by unfold memRead; split <;> rfl
@[simp] theorem memRead_pc : (memRead a s).2.pc = s.pc := by unfold memRead; split <;> rfl
@[simp] theorem memRead_fZ : (memRead a s).2.fZ = s.fZ := by unfold memRead; split <;> rfl
@[simp] theorem memRead_nh : (memRead a s).2.nh = s.nh := by unfold memRead; split <;> rfl
@[simp] theorem memRead_fC : (memRead a s).2.fC = s.fC := by unfold memRead; split <;> rfl
@[simp] theorem memRead_ime : (memRead a s).2.ime = s.ime := by unfold memRead; split <;> rfl
@[simp] theorem memRead_halted : (memRead a s).2.halted = s.halted := by unfold memRead; split <;> rfl
@[simp] theorem memRead_params : (memRead a s).2.params = s.params := by unfold memRead; split <;> rfl
@[simp] theorem memRead_cycles : (memRead a s).2.cycles = s.cycles := by unfold memRead; split <;> rfl
@[simp] theorem memRead_reg (r : Reg8) : (memRead a s).2.reg r = s.reg r := by
  cases r <;> simp [State.reg]
@[simp] theorem memRead_hl : (memRead a s).2.hl = s.hl := by simp [State.hl]
@[simp] theorem memRead_fN : (memRead a s).2.fN = s.fN := by simp [State.fN]
@[simp] theorem memRead_fH : (memRead a s).2.fH = s.fH := by simp [State.fH]

/-- A read of an address that is no device's changes the trace alone. -/
theorem memRead_of_ne_device {a : Word} {s : State} (h : s.kindAt a ≠ .device) :
    (memRead a s).2 = s.log (readCall a (memRead a s).1 s) := by
  cases hk : s.kindAt a <;> simp_all [memRead, readCall, State.report]

/-- A read keeps memory in canonical form. -/
theorem memRead_wf {s : State} (hm : Memory.wf s.mem) : Memory.wf (memRead a s).2.mem := by
  unfold memRead
  split
  · exact hm
  · exact deviceAccess_wf _ hm
  · exact hm
  · exact hm

/-- A read does not look at SP, and leaves it. -/
theorem memRead_setSp (x : Word) : memRead a { s with sp := x } = ((memRead a s).1, { (memRead a s).2 with sp := x }) := by
  have h : ({ s with sp := x } : State).kindAt a = s.kindAt a := rfl
  unfold memRead
  rw [h]
  split <;> rfl

/-- R74, R76: a read is one call and stores nothing. -/
theorem memRead_busAfter : BusAfter [a] [] [readCall a (memRead a s).1 s] s (memRead a s).2 := by
  refine ⟨?_, fun hd => ?_⟩
  · cases h : s.kindAt a <;> simp [memRead, readCall, h]
  · rw [memRead_of_ne_device (hd a (by simp))]
    exact ⟨fun _ _ => rfl, rfl, rfl, rfl, rfl⟩

/-- A readable address answers what memory holds. -/
theorem memRead_of_readable {a : Word} {s : State} (h : s.isReadable a) :
    memRead a s = (s.byteAt a, s.log (.read a (s.byteAt a))) := by
  rcases h with h | h <;> simp [memRead, h]

end Read

/-! ## One write -/

section Write

variable (a : Word) (v : Byte) (s : State)

@[simp] theorem memWrite_a : (memWrite a v s).a = s.a := by unfold memWrite; split <;> rfl
@[simp] theorem memWrite_b : (memWrite a v s).b = s.b := by unfold memWrite; split <;> rfl
@[simp] theorem memWrite_c : (memWrite a v s).c = s.c := by unfold memWrite; split <;> rfl
@[simp] theorem memWrite_d : (memWrite a v s).d = s.d := by unfold memWrite; split <;> rfl
@[simp] theorem memWrite_e : (memWrite a v s).e = s.e := by unfold memWrite; split <;> rfl
@[simp] theorem memWrite_h : (memWrite a v s).h = s.h := by unfold memWrite; split <;> rfl
@[simp] theorem memWrite_l : (memWrite a v s).l = s.l := by unfold memWrite; split <;> rfl
@[simp] theorem memWrite_sp : (memWrite a v s).sp = s.sp := by unfold memWrite; split <;> rfl
@[simp] theorem memWrite_pc : (memWrite a v s).pc = s.pc := by unfold memWrite; split <;> rfl
@[simp] theorem memWrite_fZ : (memWrite a v s).fZ = s.fZ := by unfold memWrite; split <;> rfl
@[simp] theorem memWrite_nh : (memWrite a v s).nh = s.nh := by unfold memWrite; split <;> rfl
@[simp] theorem memWrite_fC : (memWrite a v s).fC = s.fC := by unfold memWrite; split <;> rfl
@[simp] theorem memWrite_ime : (memWrite a v s).ime = s.ime := by unfold memWrite; split <;> rfl
@[simp] theorem memWrite_halted : (memWrite a v s).halted = s.halted := by unfold memWrite; split <;> rfl
@[simp] theorem memWrite_params : (memWrite a v s).params = s.params := by unfold memWrite; split <;> rfl
@[simp] theorem memWrite_cycles : (memWrite a v s).cycles = s.cycles := by unfold memWrite; split <;> rfl
@[simp] theorem memWrite_reg (r : Reg8) : (memWrite a v s).reg r = s.reg r := by
  cases r <;> simp [State.reg]
@[simp] theorem memWrite_hl : (memWrite a v s).hl = s.hl := by simp [State.hl]
@[simp] theorem memWrite_fN : (memWrite a v s).fN = s.fN := by simp [State.fN]
@[simp] theorem memWrite_fH : (memWrite a v s).fH = s.fH := by simp [State.fH]

/-- A write at an address that is no device's changes memory, behind a plain address only, and the trace. -/
theorem memWrite_of_ne_device {a : Word} {s : State} (h : s.kindAt a ≠ .device) :
    memWrite a v s = { s with mem := if s.kindAt a = AddressKind.plain then Memory.write s.mem a.toNat v else s.mem }.log
      (writeCall a v s) := by
  cases hk : s.kindAt a <;> simp_all [memWrite, writeCall, State.report]

/-- A write does not look at SP, and leaves it. -/
theorem memWrite_setSp (x : Word) : memWrite a v { s with sp := x } = { memWrite a v s with sp := x } := by
  have h : ({ s with sp := x } : State).kindAt a = s.kindAt a := rfl
  unfold memWrite
  rw [h]
  split <;> rfl

/-- A write leaves what every other address holds. -/
theorem memWrite_byteAt_ne {a x : Word} (v : Byte) {s : State} (hd : s.kindAt a ≠ .device) (h : x ≠ a) :
    (memWrite a v s).byteAt x = s.byteAt x := by
  rw [memWrite_of_ne_device v hd]
  simp only [State.byteAt, State.log_mem]
  split
  · exact Memory.read_write_ne _ _ fun hx => h (BitVec.eq_of_toNat_eq hx)
  · rfl

theorem memWrite_byteAt_eq {s : State} (hm : Memory.wf s.mem) (hd : s.kindAt a ≠ .device) :
    (memWrite a v s).byteAt a = byteAfterWrite a v s := by
  rw [memWrite_of_ne_device v hd]
  simp only [State.byteAt, State.log_mem, byteAfterWrite]
  split
  · exact Memory.read_write_eq hm _ _
  · rfl

theorem memWrite_busMap {a : Word} {s : State} (hd : s.kindAt a ≠ .device) : (memWrite a v s).busMap = s.busMap := by
  rw [memWrite_of_ne_device v hd]
  rfl

/-- R75, R77: a write is one call and stores at its address only. -/
theorem memWrite_busAfter : BusAfter [a] [a] [writeCall a v s] s (memWrite a v s) := by
  refine ⟨?_, fun hd => ⟨fun x hx => memWrite_byteAt_ne v (hd a (by simp)) (by simpa using hx), ?_⟩⟩
  · cases h : s.kindAt a <;> simp [memWrite, writeCall, h]
  · rw [memWrite_of_ne_device v (hd a (by simp))]
    exact ⟨rfl, rfl, rfl, rfl⟩

/-- R75, R77: what a write stores. -/
theorem memWrite_storedBytes : StoredBytes [(a, v)] s (memWrite a v s) := by
  intro hm hd p hp
  rw [List.mem_singleton] at hp
  subst hp
  exact memWrite_byteAt_eq a v hm (hd a (by simp))

/-- A write keeps the canonical form. -/
theorem memWrite_wf {s : State} (hm : Memory.wf s.mem) : Memory.wf (memWrite a v s).mem := by
  unfold memWrite
  split
  · exact hm
  · exact deviceAccess_wf _ hm
  · exact Memory.wf_write_word hm a v
  · exact hm

end Write

theorem SameBus.of_eq {s t : State} (h1 : t.mem = s.mem) (h2 : t.busMap = s.busMap) (h3 : t.irqPending = s.irqPending)
    (h4 : t.irqEnabled = s.irqEnabled) (h5 : t.oracle = s.oracle) (h6 : t.trace = s.trace) : SameBus s t :=
  ⟨h1, h2, h3, h4, h5, h6⟩

/-! ## A read, then a write, at one address -/

/-- R80: the two calls of a read-modify-write. -/
theorem readModifyWrite_busAfter (a : Word) (v : Byte) (s : State) :
    BusAfter [a] [a] [readCall a (memRead a s).1 s, writeCall a v (memRead a s).2] s (memWrite a v (memRead a s).2) := by
  have h := (memRead_busAfter a s).trans (memWrite_busAfter a v (memRead a s).2)
  exact ⟨h.1, fun hd => h.2 fun x hx => hd x (by simpa using hx)⟩

theorem StoredBytes.then_mem {l : List (Word × Byte)} {u : State} (h : StoredBytes l s t) (hm : u.mem = t.mem) :
    StoredBytes l s u := fun hw hd p hp => by
  rw [byteAt_of_mem hm]
  exact h hw hd p hp

theorem readModifyWrite_storedBytes (a : Word) (v : Byte) (s : State) :
    StoredBytes [(a, v)] s (memWrite a v (memRead a s).2) := by
  intro hm hd
  have hk : s.kindAt a ≠ .device := hd a (by simp)
  rw [memRead_of_ne_device hk]
  exact memWrite_storedBytes a v (s.log _) hm hd

/-! ## Push and pop -/

/-- R230: a push is the two writes, at SP - 1 and SP - 2, with SP two lower. -/
theorem push16_eq (v : Word) (s : State) :
    push16 v s = { memWrite (s.sp - 2) (lo v) (memWrite (s.sp - 1) (hi v) s) with sp := s.sp - 2 } := by
  simp only [push16, memWrite_setSp, sub_one_sub_one]

section Push

variable (v : Word) (s : State)

@[simp] theorem push16_a : (push16 v s).a = s.a := by simp [push16_eq]
@[simp] theorem push16_b : (push16 v s).b = s.b := by simp [push16_eq]
@[simp] theorem push16_c : (push16 v s).c = s.c := by simp [push16_eq]
@[simp] theorem push16_d : (push16 v s).d = s.d := by simp [push16_eq]
@[simp] theorem push16_e : (push16 v s).e = s.e := by simp [push16_eq]
@[simp] theorem push16_h : (push16 v s).h = s.h := by simp [push16_eq]
@[simp] theorem push16_l : (push16 v s).l = s.l := by simp [push16_eq]
@[simp] theorem push16_sp : (push16 v s).sp = s.sp - 2 := by simp [push16_eq]
@[simp] theorem push16_pc : (push16 v s).pc = s.pc := by simp [push16_eq]
@[simp] theorem push16_fZ : (push16 v s).fZ = s.fZ := by simp [push16_eq]
@[simp] theorem push16_nh : (push16 v s).nh = s.nh := by simp [push16_eq]
@[simp] theorem push16_fC : (push16 v s).fC = s.fC := by simp [push16_eq]
@[simp] theorem push16_ime : (push16 v s).ime = s.ime := by simp [push16_eq]
@[simp] theorem push16_halted : (push16 v s).halted = s.halted := by simp [push16_eq]
@[simp] theorem push16_params : (push16 v s).params = s.params := by simp [push16_eq]
@[simp] theorem push16_cycles : (push16 v s).cycles = s.cycles := by simp [push16_eq]
@[simp] theorem push16_reg (r : Reg8) : (push16 v s).reg r = s.reg r := by cases r <;> simp [State.reg]

/-- R230, R78: the two calls of a push, high byte first, and the bytes it stores to. -/
theorem push16_busAfter :
    BusAfter [s.sp - 1, s.sp - 2] [s.sp - 1, s.sp - 2]
      [writeCall (s.sp - 1) (hi v) s, writeCall (s.sp - 2) (lo v) (memWrite (s.sp - 1) (hi v) s)] s (push16 v s) := by
  rw [push16_eq]
  exact ((memWrite_busAfter (s.sp - 1) (hi v) s).trans (memWrite_busAfter (s.sp - 2) (lo v) _)).then_same
    ⟨rfl, rfl, rfl, rfl, rfl, rfl⟩

theorem push16_wf {s : State} (hm : Memory.wf s.mem) : Memory.wf (push16 v s).mem := by
  rw [push16_eq]
  exact memWrite_wf _ _ (memWrite_wf _ _ hm)

/-- Two writes at different addresses, one after the other. -/
theorem memWrite_memWrite_storedBytes {a b : Word} (h : b ≠ a) (v w : Byte) (s : State) :
    StoredBytes [(a, v), (b, w)] s (memWrite b w (memWrite a v s)) := by
  intro hm hd
  have ha : s.kindAt a ≠ .device := hd a (by simp)
  have hb : (memWrite a v s).kindAt b ≠ .device := by
    rw [kindAt_of_busMap (memWrite_busMap v ha)]
    exact hd b (by simp)
  have h1 : (memWrite b w (memWrite a v s)).byteAt a = byteAfterWrite a v s :=
    (memWrite_byteAt_ne w hb h.symm).trans (memWrite_byteAt_eq a v hm ha)
  have h2 : (memWrite b w (memWrite a v s)).byteAt b = byteAfterWrite b w s := by
    rw [memWrite_byteAt_eq b w (memWrite_wf a v hm) hb]
    simp only [byteAfterWrite, kindAt_of_busMap (memWrite_busMap v ha), memWrite_byteAt_ne v ha h]
  intro p hp
  simp only [List.mem_cons, List.not_mem_nil, or_false] at hp
  rcases hp with rfl | rfl
  · exact h1
  · exact h2

/-- What a push leaves in memory. -/
theorem push16_storedBytes : StoredBytes [(s.sp - 1, hi v), (s.sp - 2, lo v)] s (push16 v s) := by
  intro hm hd p hp
  rw [push16_eq]
  exact memWrite_memWrite_storedBytes (sub_one_ne_sub_two s.sp).symm (hi v) (lo v) s hm hd p hp

end Push

/-- R231: a pop is the two reads, at SP and SP + 1, with SP two higher. -/
theorem pop16_eq (s : State) :
    pop16 s = (join (memRead (s.sp + 1) (memRead s.sp s).2).1 (memRead s.sp s).1,
      { (memRead (s.sp + 1) (memRead s.sp s).2).2 with sp := s.sp + 2 }) := by
  simp only [pop16, memRead_sp, memRead_setSp, add_one_add_one]

section Pop

variable (s : State)

@[simp] theorem pop16_a : (pop16 s).2.a = s.a := by simp [pop16_eq]
@[simp] theorem pop16_b : (pop16 s).2.b = s.b := by simp [pop16_eq]
@[simp] theorem pop16_c : (pop16 s).2.c = s.c := by simp [pop16_eq]
@[simp] theorem pop16_d : (pop16 s).2.d = s.d := by simp [pop16_eq]
@[simp] theorem pop16_e : (pop16 s).2.e = s.e := by simp [pop16_eq]
@[simp] theorem pop16_h : (pop16 s).2.h = s.h := by simp [pop16_eq]
@[simp] theorem pop16_l : (pop16 s).2.l = s.l := by simp [pop16_eq]
@[simp] theorem pop16_sp : (pop16 s).2.sp = s.sp + 2 := by simp [pop16_eq]
@[simp] theorem pop16_pc : (pop16 s).2.pc = s.pc := by simp [pop16_eq]
@[simp] theorem pop16_fZ : (pop16 s).2.fZ = s.fZ := by simp [pop16_eq]
@[simp] theorem pop16_nh : (pop16 s).2.nh = s.nh := by simp [pop16_eq]
@[simp] theorem pop16_fC : (pop16 s).2.fC = s.fC := by simp [pop16_eq]
@[simp] theorem pop16_ime : (pop16 s).2.ime = s.ime := by simp [pop16_eq]
@[simp] theorem pop16_halted : (pop16 s).2.halted = s.halted := by simp [pop16_eq]
@[simp] theorem pop16_params : (pop16 s).2.params = s.params := by simp [pop16_eq]
@[simp] theorem pop16_cycles : (pop16 s).2.cycles = s.cycles := by simp [pop16_eq]
@[simp] theorem pop16_reg (r : Reg8) : (pop16 s).2.reg r = s.reg r := by cases r <;> simp [State.reg]

theorem pop16_fst : (pop16 s).1 = join (memRead (s.sp + 1) (memRead s.sp s).2).1 (memRead s.sp s).1 := by
  rw [pop16_eq]

/-- R231, R78: the two calls of a pop, low byte first. -/
theorem pop16_busAfter :
    BusAfter [s.sp, s.sp + 1] []
      [readCall s.sp (memRead s.sp s).1 s,
        readCall (s.sp + 1) (memRead (s.sp + 1) (memRead s.sp s).2).1 (memRead s.sp s).2]
      s (pop16 s).2 := by
  rw [pop16_eq]
  exact ((memRead_busAfter s.sp s).trans (memRead_busAfter (s.sp + 1) _)).then_same ⟨rfl, rfl, rfl, rfl, rfl, rfl⟩

theorem pop16_wf {s : State} (hm : Memory.wf s.mem) : Memory.wf (pop16 s).2.mem := by
  rw [pop16_eq]
  exact memRead_wf _ (memRead_wf _ hm)

end Pop

/-! ## Fetching -/

theorem fetch8_of_readable {s : State} (h : s.isReadable s.pc) :
    fetch8 s = (s.byteAt s.pc, { s with pc := s.pc + 1, trace := s.trace ++ [.read s.pc (s.byteAt s.pc)] }) := by
  simp [fetch8, memRead_of_readable h, State.log]

/-- What a fetch of one byte can change: PC, the trace, and behind a device what its access changes. -/
theorem fetch8_snd (s : State) : ∃ p e m b o tr, (fetch8 s).2 =
    { s with pc := s.pc + 1, irqPending := p, irqEnabled := e, mem := m, busMap := b, oracle := o, trace := tr } := by
  obtain ⟨p, e, m, b, o, tr, h⟩ := memRead_snd s.pc s
  exact ⟨p, e, m, b, o, tr, by simp [fetch8, h]⟩

theorem fetch8_wf {s : State} (hm : Memory.wf s.mem) : Memory.wf (fetch8 s).2.mem := memRead_wf s.pc hm

theorem fetchBytes_snd (n : Nat) (s : State) : ∃ pc p e m b o tr, (fetchBytes n s).2 =
    { s with pc := pc, irqPending := p, irqEnabled := e, mem := m, busMap := b, oracle := o, trace := tr } := by
  induction n generalizing s with
  | zero => exact ⟨_, _, _, _, _, _, _, rfl⟩
  | succ n ih =>
    obtain ⟨p, e, m, b, o, tr, h⟩ := fetch8_snd s
    obtain ⟨pc', p', e', m', b', o', tr', h'⟩ := ih (fetch8 s).2
    exact ⟨pc', p', e', m', b', o', tr', by
      simp only [fetchBytes]
      rw [h', h]⟩

theorem fetchBytes_wf (n : Nat) {s : State} (hm : Memory.wf s.mem) : Memory.wf (fetchBytes n s).2.mem := by
  induction n generalizing s with
  | zero => exact hm
  | succ n ih => exact ih (fetch8_wf hm)

theorem fetchBytes_length (n : Nat) (s : State) : (fetchBytes n s).1.length = n := by
  induction n generalizing s with
  | zero => rfl
  | succ n ih => simp [fetchBytes, ih]

/-- R106: what fetching an instruction can change: PC, the trace, and behind a device what its access changes. -/
theorem fetchInstruction_snd (s : State) : ∃ pc p e m b o tr, (fetchInstruction s).2 =
    { s with pc := pc, irqPending := p, irqEnabled := e, mem := m, busMap := b, oracle := o, trace := tr } := by
  obtain ⟨p, e, m, b, o, tr, h⟩ := fetch8_snd s
  obtain ⟨pc', p', e', m', b', o', tr', h'⟩ := fetchBytes_snd (opcodeLength (fetch8 s).1 - 1) (fetch8 s).2
  exact ⟨pc', p', e', m', b', o', tr', by
    simp only [fetchInstruction]
    rw [h', h]⟩

theorem fetchInstruction_wf {s : State} (hm : Memory.wf s.mem) : Memory.wf (fetchInstruction s).2.mem :=
  fetchBytes_wf _ (fetch8_wf hm)

theorem fetchInstruction_fst (s : State) : ∃ op rest, (fetchInstruction s).1 = op :: rest ∧
    rest.length = opcodeLength op - 1 :=
  ⟨_, _, rfl, fetchBytes_length _ _⟩

theorem bytesAt_congr {s t : State} {bs : List Byte} {a : Word} (hm : t.mem = s.mem) (hb : t.busMap = s.busMap)
    (h : bytesAt bs a s) : bytesAt bs a t := by
  induction bs generalizing a with
  | nil => trivial
  | cons v vs ih =>
    obtain ⟨h1, h2, h3⟩ := h
    refine ⟨?_, by rw [byteAt_of_mem hm, h2], ih h3⟩
    simpa only [State.isReadable, kindAt_of_busMap hb] using h1

/-- R106: fetching readable bytes reads each once, in increasing address order, with PC past them. -/
theorem fetchBytes_of_bytesAt (bs : List Byte) (s : State) (h : bytesAt bs s.pc s) :
    fetchBytes bs.length s = (bs,
      { s with pc := s.pc + BitVec.ofNat 16 bs.length, trace := s.trace ++ fetchCalls bs s.pc }) := by
  induction bs generalizing s with
  | nil => simp [fetchBytes, fetchCalls]
  | cons v vs ih =>
    obtain ⟨h1, h2, h3⟩ := h
    simp only [List.length_cons, fetchBytes, fetch8_of_readable h1, h2]
    rw [ih { s with pc := s.pc + 1, trace := s.trace ++ [.read s.pc v] }
      (bytesAt_congr (s := s) (a := s.pc + 1) rfl rfl h3)]
    simp only [fetchCalls, List.append_assoc, List.singleton_append, Prod.mk.injEq, true_and]
    have : s.pc + 1 + BitVec.ofNat 16 vs.length = s.pc + BitVec.ofNat 16 (vs.length + 1) := by
      rw [BitVec.ofNat_add, BitVec.add_assoc, BitVec.add_comm (1 : Word)]
      rfl
    rw [this]

end Sys2Proof.Machine
end

