-- ==== Sys2Proof/Laws/Decode.lean ====
section
/-! SUPPORT. The decoder's shape: which of the formats of rule R101 an opcode has, and the encoding of what it decodes
to. -/

namespace Sys2Proof

/-- R115: the extended map, encoded and decoded. -/
theorem encode_decodeExtended : ∀ op2 : Byte, encode (decodeExtended op2) = [0xCB, op2] := by decide

theorem wf_decodeExtended : ∀ op2 : Byte, (decodeExtended op2).wf = true := by decide

/-- R117: an opcode other than the prefix byte is decoded by the primary map. -/
theorem decode_of_ne_cb {op : Byte} (h : op ≠ 0xCB) (bs : List Byte) : decode (op :: bs) = decodePrimary op bs := by
  simp only [decode, if_neg h]

/-- R102: the fields of an opcode byte. -/
theorem fields_ofNat {n : Nat} (hn : n < 256) :
    fieldX (BitVec.ofNat 8 n) = n / 64 ∧ fieldY (BitVec.ofNat 8 n) = n / 8 % 8 ∧ fieldZ (BitVec.ofNat 8 n) = n % 8 ∧
      fieldP (BitVec.ofNat 8 n) = n / 8 % 8 / 2 ∧ fieldQ (BitVec.ofNat 8 n) = n / 8 % 8 % 2 := by
  simp [fieldX, fieldY, fieldZ, fieldP, fieldQ, Nat.mod_eq_of_lt hn]

theorem decodePrimary_shape_ofNat {n : Nat} (hn : n < 256) (h : n ≠ 0xCB) :
    (∃ j, (∀ bs, decodePrimary (BitVec.ofNat 8 n) bs = withNone j bs) ∧ j.wf = true ∧
      encode j = [BitVec.ofNat 8 n] ∧ opcodeLength (BitVec.ofNat 8 n) = 1) ∨
    (∃ f, (∀ bs, decodePrimary (BitVec.ofNat 8 n) bs = withByte f bs) ∧
      (∀ b, (f b).wf = true ∧ encode (f b) = [BitVec.ofNat 8 n, b]) ∧ opcodeLength (BitVec.ofNat 8 n) = 2) ∨
    (∃ f, (∀ bs, decodePrimary (BitVec.ofNat 8 n) bs = withWord f bs) ∧
      (∀ w, (f w).wf = true ∧ encode (f w) = [BitVec.ofNat 8 n, lo w, hi w]) ∧
      opcodeLength (BitVec.ofNat 8 n) = 3) := by
  obtain ⟨h1, h2, h3, h4, h5⟩ := fields_ofNat hn
  simp only [decodePrimary, h1, h2, h3, h4, h5]
  clear h1 h2 h3 h4 h5
  interval_cases n <;> first
    | exact absurd rfl h
    | exact .inl ⟨_, fun _ => rfl, rfl, rfl, rfl⟩
    | exact .inr (.inl ⟨_, fun _ => rfl, fun _ => ⟨rfl, rfl⟩, rfl⟩)
    | exact .inr (.inr ⟨_, fun _ => rfl, fun _ => ⟨rfl, rfl⟩, rfl⟩)

/-- R111: a primary opcode other than the prefix byte decodes in one of three ways, whatever follows it: with no
operand, with one operand byte, with two. -/
theorem decodePrimary_shape {op : Byte} (h : op ≠ 0xCB) :
    (∃ j, (∀ bs, decodePrimary op bs = withNone j bs) ∧ j.wf = true ∧ encode j = [op] ∧ opcodeLength op = 1) ∨
    (∃ f, (∀ bs, decodePrimary op bs = withByte f bs) ∧ (∀ b, (f b).wf = true ∧ encode (f b) = [op, b]) ∧
      opcodeLength op = 2) ∨
    (∃ f, (∀ bs, decodePrimary op bs = withWord f bs) ∧
      (∀ w, (f w).wf = true ∧ encode (f w) = [op, lo w, hi w]) ∧ opcodeLength op = 3) := by
  have := decodePrimary_shape_ofNat op.isLt fun hn => h (BitVec.eq_of_toNat_eq hn)
  rwa [BitVec.ofNat_toNat, BitVec.setWidth_eq] at this

end Sys2Proof
end

