-- ==== Sys2Proof/Laws/Effects.lean ====
section
/-! SUPPORT. What the operations leave alone that no rule lets them change: the parameters, and the cycle count, to which
only the charge of an instruction adds; and how a cost in the implementation's tables is one in the recommended tables. -/

namespace Sys2Proof.Machine

variable (s : State)

/-! ## The parameters and the count through the shared operations -/

@[simp] theorem setPair_params (p : Pair) (v : Word) : (s.setPair p v).params = s.params := by cases p <;> rfl
@[simp] theorem setStackPair_params (p : StackPair) (v : Word) : (s.setStackPair p v).params = s.params := by
  cases p <;> rfl
@[simp] theorem readOperand_params (o : Operand8) : (s.readOperand o).2.params = s.params := by
  cases o <;> simp [State.readOperand]
@[simp] theorem writeOperand_params (o : Operand8) (v : Byte) : (s.writeOperand o v).params = s.params := by
  cases o <;> simp [State.writeOperand]
@[simp] theorem alu_params (op : AluOp) (v : Byte) : (alu op v s).params = s.params := by cases op <;> rfl
@[simp] theorem copyReg_params (dst r : Reg8) : (copyReg dst r s).params = s.params := by simp [copyReg]
@[simp] theorem loadMem_params (dst : Reg8) : (loadMem dst s).params = s.params := by simp [loadMem]
@[simp] theorem storeReg_params (r : Reg8) : (storeReg r s).params = s.params := by simp [storeReg]
@[simp] theorem loadImm_params (dst : Reg8) (d8 : Byte) : (loadImm dst d8 s).params = s.params := by simp [loadImm]
@[simp] theorem storeImm_params (d8 : Byte) : (storeImm d8 s).params = s.params := by simp [storeImm]
@[simp] theorem loadA_params (addr : Word) : (loadA addr s).params = s.params := by simp [loadA]
@[simp] theorem storeA_params (addr : Word) : (storeA addr s).params = s.params := by simp [storeA]
@[simp] theorem loadAThenHL_params (delta : Word) : (loadAThenHL delta s).params = s.params := by simp [loadAThenHL]
@[simp] theorem storeAThenHL_params (delta : Word) : (storeAThenHL delta s).params = s.params := by simp [storeAThenHL]
@[simp] theorem loadPair_params (p : Pair) (d16 : Word) : (loadPair p d16 s).params = s.params := by simp [loadPair]
@[simp] theorem storeSP_params (a16 : Word) : (storeSP a16 s).params = s.params := by simp [storeSP, memWrite16]
@[simp] theorem copyHLtoSP_params : (copyHLtoSP s).params = s.params := by simp [copyHLtoSP]
@[simp] theorem loadHLfromSP_params (e : Byte) : (loadHLfromSP e s).params = s.params := by simp [loadHLfromSP]
@[simp] theorem incPair_params (p : Pair) : (incPair p s).params = s.params := by simp [incPair]
@[simp] theorem decPair_params (p : Pair) : (decPair p s).params = s.params := by simp [decPair]
@[simp] theorem incReg_params (r : Reg8) : (incReg r s).params = s.params := by simp [incReg, incFlags]
@[simp] theorem decReg_params (r : Reg8) : (decReg r s).params = s.params := by simp [decReg, decFlags]
@[simp] theorem incMem_params : (incMem s).params = s.params := by simp [incMem, incFlags]
@[simp] theorem decMem_params : (decMem s).params = s.params := by simp [decMem, decFlags]
@[simp] theorem aluReg_params (op : AluOp) (r : Reg8) : (aluReg op r s).params = s.params := by simp [aluReg]
@[simp] theorem aluMem_params (op : AluOp) : (aluMem op s).params = s.params := by simp [aluMem]
@[simp] theorem aluImm_params (op : AluOp) (d8 : Byte) : (aluImm op d8 s).params = s.params := by simp [aluImm]
@[simp] theorem addHL_params (p : Pair) : (addHL p s).params = s.params := by simp [addHL]
@[simp] theorem addSP_params (e : Byte) : (addSP e s).params = s.params := by simp [addSP]
@[simp] theorem jumpRelative_params (e : Byte) : (jumpRelative e s).params = s.params := by simp [jumpRelative]
@[simp] theorem jumpRelativeIf_params (cc : Cond) (e : Byte) : (jumpRelativeIf cc e s).params = s.params := by
  simp only [jumpRelativeIf]; split <;> simp [jumpRelative]
@[simp] theorem jumpTo_params (a16 : Word) : (jumpTo a16 s).params = s.params := by simp [jumpTo]
@[simp] theorem jumpIf_params (cc : Cond) (a16 : Word) : (jumpIf cc a16 s).params = s.params := by
  simp only [jumpIf]; split <;> simp [jumpTo]
@[simp] theorem jumpHL_params : (jumpHL s).params = s.params := by simp [jumpHL]
@[simp] theorem call_params (target : Word) : (call target s).params = s.params := by simp [call]
@[simp] theorem callIf_params (cc : Cond) (a16 : Word) : (callIf cc a16 s).params = s.params := by
  simp only [callIf]; split <;> simp [call]
@[simp] theorem restart_params (y : Fin 8) : (restart y s).params = s.params := by simp [restart, call]
@[simp] theorem popPC_params : (popPC s).params = s.params := by simp [popPC]
@[simp] theorem returnIf_params (cc : Cond) : (returnIf cc s).params = s.params := by
  simp only [returnIf]; split <;> simp [popPC]
@[simp] theorem returnFromInterrupt_params : (returnFromInterrupt s).params = s.params := by simp [returnFromInterrupt]
@[simp] theorem pushPair_params (p : StackPair) : (pushPair p s).params = s.params := by simp [pushPair]
@[simp] theorem popPair_params (p : StackPair) : (popPair p s).params = s.params := by simp [popPair]
@[simp] theorem rotate_params (op : RotOp) (o : Operand8) : (rotate op o s).params = s.params := by simp [rotate]
@[simp] theorem testBit_params (b : Fin 8) (o : Operand8) : (testBit b o s).params = s.params := by simp [testBit]
@[simp] theorem resetBit_params (b : Fin 8) (o : Operand8) : (resetBit b o s).params = s.params := by simp [resetBit]
@[simp] theorem setBit_params (b : Fin 8) (o : Operand8) : (setBit b o s).params = s.params := by simp [setBit]
@[simp] theorem rotateA_params (op : RotOp) : (rotateA op s).params = s.params := by simp [rotateA]
@[simp] theorem decimalAdjustA_params : (decimalAdjustA s).params = s.params := by simp [decimalAdjustA]
@[simp] theorem complementA_params : (complementA s).params = s.params := by simp [complementA]
@[simp] theorem setCarry_params : (setCarry s).params = s.params := by simp [setCarry]
@[simp] theorem complementCarry_params : (complementCarry s).params = s.params := by simp [complementCarry]
@[simp] theorem disableInterrupts_params : (disableInterrupts s).params = s.params := by simp [disableInterrupts]
@[simp] theorem enableInterrupts_params : (enableInterrupts s).params = s.params := by simp [enableInterrupts]
@[simp] theorem halt_params : (halt s).params = s.params := by simp [halt]
@[simp] theorem noEffect_params : (noEffect s).params = s.params := by simp [noEffect]
@[simp] theorem invalidOpcode_params (op : Byte) : (invalidOpcode op s).params = s.params := by simp [invalidOpcode]
@[simp] theorem extended_params (op2 : Byte) : (extended op2 s).params = s.params := by
  unfold extended
  dsimp only
  split <;> simp

@[simp] theorem setPair_cycles (p : Pair) (v : Word) : (s.setPair p v).cycles = s.cycles := by cases p <;> rfl
@[simp] theorem setStackPair_cycles (p : StackPair) (v : Word) : (s.setStackPair p v).cycles = s.cycles := by
  cases p <;> rfl
@[simp] theorem readOperand_cycles (o : Operand8) : (s.readOperand o).2.cycles = s.cycles := by
  cases o <;> simp [State.readOperand]
@[simp] theorem writeOperand_cycles (o : Operand8) (v : Byte) : (s.writeOperand o v).cycles = s.cycles := by
  cases o <;> simp [State.writeOperand]
@[simp] theorem alu_cycles (op : AluOp) (v : Byte) : (alu op v s).cycles = s.cycles := by cases op <;> rfl
@[simp] theorem copyReg_cycles (dst r : Reg8) : (copyReg dst r s).cycles = s.cycles := by simp [copyReg]
@[simp] theorem loadMem_cycles (dst : Reg8) : (loadMem dst s).cycles = s.cycles := by simp [loadMem]
@[simp] theorem storeReg_cycles (r : Reg8) : (storeReg r s).cycles = s.cycles := by simp [storeReg]
@[simp] theorem loadImm_cycles (dst : Reg8) (d8 : Byte) : (loadImm dst d8 s).cycles = s.cycles := by simp [loadImm]
@[simp] theorem storeImm_cycles (d8 : Byte) : (storeImm d8 s).cycles = s.cycles := by simp [storeImm]
@[simp] theorem loadA_cycles (addr : Word) : (loadA addr s).cycles = s.cycles := by simp [loadA]
@[simp] theorem storeA_cycles (addr : Word) : (storeA addr s).cycles = s.cycles := by simp [storeA]
@[simp] theorem loadAThenHL_cycles (delta : Word) : (loadAThenHL delta s).cycles = s.cycles := by simp [loadAThenHL]
@[simp] theorem storeAThenHL_cycles (delta : Word) : (storeAThenHL delta s).cycles = s.cycles := by simp [storeAThenHL]
@[simp] theorem loadPair_cycles (p : Pair) (d16 : Word) : (loadPair p d16 s).cycles = s.cycles := by simp [loadPair]
@[simp] theorem storeSP_cycles (a16 : Word) : (storeSP a16 s).cycles = s.cycles := by simp [storeSP, memWrite16]
@[simp] theorem copyHLtoSP_cycles : (copyHLtoSP s).cycles = s.cycles := by simp [copyHLtoSP]
@[simp] theorem loadHLfromSP_cycles (e : Byte) : (loadHLfromSP e s).cycles = s.cycles := by simp [loadHLfromSP]
@[simp] theorem incPair_cycles (p : Pair) : (incPair p s).cycles = s.cycles := by simp [incPair]
@[simp] theorem decPair_cycles (p : Pair) : (decPair p s).cycles = s.cycles := by simp [decPair]
@[simp] theorem incReg_cycles (r : Reg8) : (incReg r s).cycles = s.cycles := by simp [incReg, incFlags]
@[simp] theorem decReg_cycles (r : Reg8) : (decReg r s).cycles = s.cycles := by simp [decReg, decFlags]
@[simp] theorem incMem_cycles : (incMem s).cycles = s.cycles := by simp [incMem, incFlags]
@[simp] theorem decMem_cycles : (decMem s).cycles = s.cycles := by simp [decMem, decFlags]
@[simp] theorem aluReg_cycles (op : AluOp) (r : Reg8) : (aluReg op r s).cycles = s.cycles := by simp [aluReg]
@[simp] theorem aluMem_cycles (op : AluOp) : (aluMem op s).cycles = s.cycles := by simp [aluMem]
@[simp] theorem aluImm_cycles (op : AluOp) (d8 : Byte) : (aluImm op d8 s).cycles = s.cycles := by simp [aluImm]
@[simp] theorem addHL_cycles (p : Pair) : (addHL p s).cycles = s.cycles := by simp [addHL]
@[simp] theorem addSP_cycles (e : Byte) : (addSP e s).cycles = s.cycles := by simp [addSP]
@[simp] theorem jumpRelative_cycles (e : Byte) : (jumpRelative e s).cycles = s.cycles := by simp [jumpRelative]
@[simp] theorem jumpRelativeIf_cycles (cc : Cond) (e : Byte) : (jumpRelativeIf cc e s).cycles = s.cycles := by
  simp only [jumpRelativeIf]; split <;> simp [jumpRelative]
@[simp] theorem jumpTo_cycles (a16 : Word) : (jumpTo a16 s).cycles = s.cycles := by simp [jumpTo]
@[simp] theorem jumpIf_cycles (cc : Cond) (a16 : Word) : (jumpIf cc a16 s).cycles = s.cycles := by
  simp only [jumpIf]; split <;> simp [jumpTo]
@[simp] theorem jumpHL_cycles : (jumpHL s).cycles = s.cycles := by simp [jumpHL]
@[simp] theorem call_cycles (target : Word) : (call target s).cycles = s.cycles := by simp [call]
@[simp] theorem callIf_cycles (cc : Cond) (a16 : Word) : (callIf cc a16 s).cycles = s.cycles := by
  simp only [callIf]; split <;> simp [call]
@[simp] theorem restart_cycles (y : Fin 8) : (restart y s).cycles = s.cycles := by simp [restart, call]
@[simp] theorem popPC_cycles : (popPC s).cycles = s.cycles := by simp [popPC]
@[simp] theorem returnIf_cycles (cc : Cond) : (returnIf cc s).cycles = s.cycles := by
  simp only [returnIf]; split <;> simp [popPC]
@[simp] theorem returnFromInterrupt_cycles : (returnFromInterrupt s).cycles = s.cycles := by simp [returnFromInterrupt]
@[simp] theorem pushPair_cycles (p : StackPair) : (pushPair p s).cycles = s.cycles := by simp [pushPair]
@[simp] theorem popPair_cycles (p : StackPair) : (popPair p s).cycles = s.cycles := by simp [popPair]
@[simp] theorem rotate_cycles (op : RotOp) (o : Operand8) : (rotate op o s).cycles = s.cycles := by simp [rotate]
@[simp] theorem testBit_cycles (b : Fin 8) (o : Operand8) : (testBit b o s).cycles = s.cycles := by simp [testBit]
@[simp] theorem resetBit_cycles (b : Fin 8) (o : Operand8) : (resetBit b o s).cycles = s.cycles := by simp [resetBit]
@[simp] theorem setBit_cycles (b : Fin 8) (o : Operand8) : (setBit b o s).cycles = s.cycles := by simp [setBit]
@[simp] theorem rotateA_cycles (op : RotOp) : (rotateA op s).cycles = s.cycles := by simp [rotateA]
@[simp] theorem decimalAdjustA_cycles : (decimalAdjustA s).cycles = s.cycles := by simp [decimalAdjustA]
@[simp] theorem complementA_cycles : (complementA s).cycles = s.cycles := by simp [complementA]
@[simp] theorem setCarry_cycles : (setCarry s).cycles = s.cycles := by simp [setCarry]
@[simp] theorem complementCarry_cycles : (complementCarry s).cycles = s.cycles := by simp [complementCarry]
@[simp] theorem disableInterrupts_cycles : (disableInterrupts s).cycles = s.cycles := by simp [disableInterrupts]
@[simp] theorem enableInterrupts_cycles : (enableInterrupts s).cycles = s.cycles := by simp [enableInterrupts]
@[simp] theorem halt_cycles : (halt s).cycles = s.cycles := by simp [halt]
@[simp] theorem noEffect_cycles : (noEffect s).cycles = s.cycles := by simp [noEffect]
@[simp] theorem invalidOpcode_cycles (op : Byte) : (invalidOpcode op s).cycles = s.cycles := by simp [invalidOpcode]
@[simp] theorem extended_cycles (op2 : Byte) : (extended op2 s).cycles = s.cycles := by
  unfold extended
  dsimp only
  split <;> simp

/-! ## Costs -/

variable {s}

/-- R17: where the tables are the recommended ones, so is every cost. -/
theorem tableCost_of_recommended (h : RecommendedCosts s.params) (i : Instr) :
    tableCost i s = costIn cyclesPrimary cyclesExtended takenExtra i s := by
  have h1 : baseCost s.params = cyclesPrimary := funext fun op => (h op).1
  have h2 : extendedCost s.params = cyclesExtended := funext fun op => (h op).2.1
  have h3 : takenCost s.params = takenExtra := funext fun op => (h op).2.2
  rw [tableCost, h1, h2, h3]

/-- R16: an added cost is the growth of the count where that fits in 8 bits. -/
theorem CountGrows.of_cycles {n : Nat} {t : State} (h : t.cycles = addCount s.cycles n) : CountGrows n s t := fun hn => by
  rw [h, addCount_toNat hn]

/-- What an instruction costs in both ways of saying it. -/
theorem Costs.of_tableCost {i : Instr} {n : Nat} {t : State} (h : t.cycles = addCount s.cycles (tableCost i s))
    (hn : costIn cyclesPrimary cyclesExtended takenExtra i s = n) : Costs i n s t :=
  ⟨.of_cycles h, fun hr => .of_cycles (by rw [h, tableCost_of_recommended hr, hn])⟩

end Sys2Proof.Machine
end

