-- ==== Sys2Proof/Laws/Families.lean ====
section
/-! SUPPORT. The instructions by family: a case analysis that names each family of the opcode maps once, and the shared
operation each member's meaning is. -/

namespace Sys2Proof

/-- A property of all instructions, one case for each bit pattern of rules R111 and R115. -/
theorem Instr.byFamily {P : Instr → Prop}
    (ldRegReg : ∀ (dst : Reg8) (r : Reg8), P (Group.ldRegReg dst r))
    (ldRegMem : ∀ (dst : Reg8), P (Group.ldRegMem dst))
    (ldMemReg : ∀ (r : Reg8), P (Group.ldMemReg r))
    (ldImm : ∀ (o : Operand8) (d8 : Byte), P (Group.ldImm o d8))
    (inc : ∀ (o : Operand8), P (Group.inc o))
    (dec : ∀ (o : Operand8), P (Group.dec o))
    (ldPair : ∀ (p : Pair) (d16 : Word), P (Group.ldPair p d16))
    (incPair : ∀ (p : Pair), P (Group.incPair p))
    (decPair : ∀ (p : Pair), P (Group.decPair p))
    (addHL : ∀ (p : Pair), P (Group.addHL p))
    (alu : ∀ (op : AluOp) (o : Operand8), P (Group.alu op o))
    (aluImm : ∀ (op : AluOp) (d8 : Byte), P (Group.aluImm op d8))
    (jrCond : ∀ (cc : Cond) (e : Byte), P (Group.jrCond cc e))
    (jpCond : ∀ (cc : Cond) (a16 : Word), P (Group.jpCond cc a16))
    (callCond : ∀ (cc : Cond) (a16 : Word), P (Group.callCond cc a16))
    (retCond : ∀ (cc : Cond), P (Group.retCond cc))
    (push : ∀ (p : StackPair), P (Group.push p))
    (pop : ∀ (p : StackPair), P (Group.pop p))
    (rst : ∀ (y : Fin 8), P (Group.rst y))
    (rotate : ∀ (op : RotOp) (o : Operand8), P (Group.rotate op o))
    (bit : ∀ (b : Fin 8) (o : Operand8), P (Group.bit b o))
    (res : ∀ (b : Fin 8) (o : Operand8), P (Group.res b o))
    (set : ∀ (b : Fin 8) (o : Operand8), P (Group.set b o))
    (ld_mA16_SP : ∀ a16 : Word, P (.ld_mA16_SP a16))
    (jr_e : ∀ e : Byte, P (.jr_e e))
    (jp_a16 : ∀ a16 : Word, P (.jp_a16 a16))
    (call_a16 : ∀ a16 : Word, P (.call_a16 a16))
    (ldh_mA8_A : ∀ a8 : Byte, P (.ldh_mA8_A a8))
    (add_SP_e : ∀ e : Byte, P (.add_SP_e e))
    (ld_mA16_A : ∀ a16 : Word, P (.ld_mA16_A a16))
    (ldh_A_mA8 : ∀ a8 : Byte, P (.ldh_A_mA8 a8))
    (ld_HL_SPe : ∀ e : Byte, P (.ld_HL_SPe e))
    (ld_A_mA16 : ∀ a16 : Word, P (.ld_A_mA16 a16))
    (nop : P .nop)
    (ld_mBC_A : P .ld_mBC_A)
    (rlca : P .rlca)
    (ld_A_mBC : P .ld_A_mBC)
    (rrca : P .rrca)
    (stop : P .stop)
    (ld_mDE_A : P .ld_mDE_A)
    (rla : P .rla)
    (ld_A_mDE : P .ld_A_mDE)
    (rra : P .rra)
    (ld_mHLI_A : P .ld_mHLI_A)
    (daa : P .daa)
    (ld_A_mHLI : P .ld_A_mHLI)
    (cpl : P .cpl)
    (ld_mHLD_A : P .ld_mHLD_A)
    (scf : P .scf)
    (ld_A_mHLD : P .ld_A_mHLD)
    (ccf : P .ccf)
    (halt : P .halt)
    (ret : P .ret)
    (cbPrefix : P .cbPrefix)
    (invalid_D3 : P .invalid_D3)
    (reti : P .reti)
    (invalid_DB : P .invalid_DB)
    (invalid_DD : P .invalid_DD)
    (ld_mC_A : P .ld_mC_A)
    (invalid_E3 : P .invalid_E3)
    (invalid_E4 : P .invalid_E4)
    (jp_mHL : P .jp_mHL)
    (invalid_EB : P .invalid_EB)
    (invalid_EC : P .invalid_EC)
    (invalid_ED : P .invalid_ED)
    (ld_A_mC : P .ld_A_mC)
    (di : P .di)
    (invalid_F4 : P .invalid_F4)
    (ld_SP_HL : P .ld_SP_HL)
    (ei : P .ei)
    (invalid_FC : P .invalid_FC)
    (invalid_FD : P .invalid_FD) : ∀ i, P i
  | .ld_BC_d16 d16 => ldPair .bc d16
  | .ld_B_d8 d8 => ldImm (.reg .b) d8
  | .ld_mA16_SP a16 => ld_mA16_SP a16
  | .ld_C_d8 d8 => ldImm (.reg .c) d8
  | .ld_DE_d16 d16 => ldPair .de d16
  | .ld_D_d8 d8 => ldImm (.reg .d) d8
  | .jr_e e => jr_e e
  | .ld_E_d8 d8 => ldImm (.reg .e) d8
  | .jr_NZ_e e => jrCond .nz e
  | .ld_HL_d16 d16 => ldPair .hl d16
  | .ld_H_d8 d8 => ldImm (.reg .h) d8
  | .jr_Z_e e => jrCond .z e
  | .ld_L_d8 d8 => ldImm (.reg .l) d8
  | .jr_NC_e e => jrCond .nc e
  | .ld_SP_d16 d16 => ldPair .sp d16
  | .ld_mHL_d8 d8 => ldImm .atHL d8
  | .jr_C_e e => jrCond .c e
  | .ld_A_d8 d8 => ldImm (.reg .a) d8
  | .jp_NZ_a16 a16 => jpCond .nz a16
  | .jp_a16 a16 => jp_a16 a16
  | .call_NZ_a16 a16 => callCond .nz a16
  | .add_A_d8 d8 => aluImm .add d8
  | .jp_Z_a16 a16 => jpCond .z a16
  | .call_Z_a16 a16 => callCond .z a16
  | .call_a16 a16 => call_a16 a16
  | .adc_A_d8 d8 => aluImm .adc d8
  | .jp_NC_a16 a16 => jpCond .nc a16
  | .call_NC_a16 a16 => callCond .nc a16
  | .sub_d8 d8 => aluImm .sub d8
  | .jp_C_a16 a16 => jpCond .c a16
  | .call_C_a16 a16 => callCond .c a16
  | .sbc_A_d8 d8 => aluImm .sbc d8
  | .ldh_mA8_A a8 => ldh_mA8_A a8
  | .and_d8 d8 => aluImm .and d8
  | .add_SP_e e => add_SP_e e
  | .ld_mA16_A a16 => ld_mA16_A a16
  | .xor_d8 d8 => aluImm .xor d8
  | .ldh_A_mA8 a8 => ldh_A_mA8 a8
  | .or_d8 d8 => aluImm .or d8
  | .ld_HL_SPe e => ld_HL_SPe e
  | .ld_A_mA16 a16 => ld_A_mA16 a16
  | .cp_d8 d8 => aluImm .cp d8
  | .nop => nop
  | .ld_mBC_A => ld_mBC_A
  | .inc_BC => incPair .bc
  | .inc_B => inc (.reg .b)
  | .dec_B => dec (.reg .b)
  | .rlca => rlca
  | .add_HL_BC => addHL .bc
  | .ld_A_mBC => ld_A_mBC
  | .dec_BC => decPair .bc
  | .inc_C => inc (.reg .c)
  | .dec_C => dec (.reg .c)
  | .rrca => rrca
  | .stop => stop
  | .ld_mDE_A => ld_mDE_A
  | .inc_DE => incPair .de
  | .inc_D => inc (.reg .d)
  | .dec_D => dec (.reg .d)
  | .rla => rla
  | .add_HL_DE => addHL .de
  | .ld_A_mDE => ld_A_mDE
  | .dec_DE => decPair .de
  | .inc_E => inc (.reg .e)
  | .dec_E => dec (.reg .e)
  | .rra => rra
  | .ld_mHLI_A => ld_mHLI_A
  | .inc_HL => incPair .hl
  | .inc_H => inc (.reg .h)
  | .dec_H => dec (.reg .h)
  | .daa => daa
  | .add_HL_HL => addHL .hl
  | .ld_A_mHLI => ld_A_mHLI
  | .dec_HL => decPair .hl
  | .inc_L => inc (.reg .l)
  | .dec_L => dec (.reg .l)
  | .cpl => cpl
  | .ld_mHLD_A => ld_mHLD_A
  | .inc_SP => incPair .sp
  | .inc_mHL => inc .atHL
  | .dec_mHL => dec .atHL
  | .scf => scf
  | .add_HL_SP => addHL .sp
  | .ld_A_mHLD => ld_A_mHLD
  | .dec_SP => decPair .sp
  | .inc_A => inc (.reg .a)
  | .dec_A => dec (.reg .a)
  | .ccf => ccf
  | .ld_B_B => ldRegReg .b .b
  | .ld_B_C => ldRegReg .b .c
  | .ld_B_D => ldRegReg .b .d
  | .ld_B_E => ldRegReg .b .e
  | .ld_B_H => ldRegReg .b .h
  | .ld_B_L => ldRegReg .b .l
  | .ld_B_mHL => ldRegMem .b
  | .ld_B_A => ldRegReg .b .a
  | .ld_C_B => ldRegReg .c .b
  | .ld_C_C => ldRegReg .c .c
  | .ld_C_D => ldRegReg .c .d
  | .ld_C_E => ldRegReg .c .e
  | .ld_C_H => ldRegReg .c .h
  | .ld_C_L => ldRegReg .c .l
  | .ld_C_mHL => ldRegMem .c
  | .ld_C_A => ldRegReg .c .a
  | .ld_D_B => ldRegReg .d .b
  | .ld_D_C => ldRegReg .d .c
  | .ld_D_D => ldRegReg .d .d
  | .ld_D_E => ldRegReg .d .e
  | .ld_D_H => ldRegReg .d .h
  | .ld_D_L => ldRegReg .d .l
  | .ld_D_mHL => ldRegMem .d
  | .ld_D_A => ldRegReg .d .a
  | .ld_E_B => ldRegReg .e .b
  | .ld_E_C => ldRegReg .e .c
  | .ld_E_D => ldRegReg .e .d
  | .ld_E_E => ldRegReg .e .e
  | .ld_E_H => ldRegReg .e .h
  | .ld_E_L => ldRegReg .e .l
  | .ld_E_mHL => ldRegMem .e
  | .ld_E_A => ldRegReg .e .a
  | .ld_H_B => ldRegReg .h .b
  | .ld_H_C => ldRegReg .h .c
  | .ld_H_D => ldRegReg .h .d
  | .ld_H_E => ldRegReg .h .e
  | .ld_H_H => ldRegReg .h .h
  | .ld_H_L => ldRegReg .h .l
  | .ld_H_mHL => ldRegMem .h
  | .ld_H_A => ldRegReg .h .a
  | .ld_L_B => ldRegReg .l .b
  | .ld_L_C => ldRegReg .l .c
  | .ld_L_D => ldRegReg .l .d
  | .ld_L_E => ldRegReg .l .e
  | .ld_L_H => ldRegReg .l .h
  | .ld_L_L => ldRegReg .l .l
  | .ld_L_mHL => ldRegMem .l
  | .ld_L_A => ldRegReg .l .a
  | .ld_mHL_B => ldMemReg .b
  | .ld_mHL_C => ldMemReg .c
  | .ld_mHL_D => ldMemReg .d
  | .ld_mHL_E => ldMemReg .e
  | .ld_mHL_H => ldMemReg .h
  | .ld_mHL_L => ldMemReg .l
  | .halt => halt
  | .ld_mHL_A => ldMemReg .a
  | .ld_A_B => ldRegReg .a .b
  | .ld_A_C => ldRegReg .a .c
  | .ld_A_D => ldRegReg .a .d
  | .ld_A_E => ldRegReg .a .e
  | .ld_A_H => ldRegReg .a .h
  | .ld_A_L => ldRegReg .a .l
  | .ld_A_mHL => ldRegMem .a
  | .ld_A_A => ldRegReg .a .a
  | .add_A_B => alu .add (.reg .b)
  | .add_A_C => alu .add (.reg .c)
  | .add_A_D => alu .add (.reg .d)
  | .add_A_E => alu .add (.reg .e)
  | .add_A_H => alu .add (.reg .h)
  | .add_A_L => alu .add (.reg .l)
  | .add_A_mHL => alu .add .atHL
  | .add_A_A => alu .add (.reg .a)
  | .adc_A_B => alu .adc (.reg .b)
  | .adc_A_C => alu .adc (.reg .c)
  | .adc_A_D => alu .adc (.reg .d)
  | .adc_A_E => alu .adc (.reg .e)
  | .adc_A_H => alu .adc (.reg .h)
  | .adc_A_L => alu .adc (.reg .l)
  | .adc_A_mHL => alu .adc .atHL
  | .adc_A_A => alu .adc (.reg .a)
  | .sub_B => alu .sub (.reg .b)
  | .sub_C => alu .sub (.reg .c)
  | .sub_D => alu .sub (.reg .d)
  | .sub_E => alu .sub (.reg .e)
  | .sub_H => alu .sub (.reg .h)
  | .sub_L => alu .sub (.reg .l)
  | .sub_mHL => alu .sub .atHL
  | .sub_A => alu .sub (.reg .a)
  | .sbc_A_B => alu .sbc (.reg .b)
  | .sbc_A_C => alu .sbc (.reg .c)
  | .sbc_A_D => alu .sbc (.reg .d)
  | .sbc_A_E => alu .sbc (.reg .e)
  | .sbc_A_H => alu .sbc (.reg .h)
  | .sbc_A_L => alu .sbc (.reg .l)
  | .sbc_A_mHL => alu .sbc .atHL
  | .sbc_A_A => alu .sbc (.reg .a)
  | .and_B => alu .and (.reg .b)
  | .and_C => alu .and (.reg .c)
  | .and_D => alu .and (.reg .d)
  | .and_E => alu .and (.reg .e)
  | .and_H => alu .and (.reg .h)
  | .and_L => alu .and (.reg .l)
  | .and_mHL => alu .and .atHL
  | .and_A => alu .and (.reg .a)
  | .xor_B => alu .xor (.reg .b)
  | .xor_C => alu .xor (.reg .c)
  | .xor_D => alu .xor (.reg .d)
  | .xor_E => alu .xor (.reg .e)
  | .xor_H => alu .xor (.reg .h)
  | .xor_L => alu .xor (.reg .l)
  | .xor_mHL => alu .xor .atHL
  | .xor_A => alu .xor (.reg .a)
  | .or_B => alu .or (.reg .b)
  | .or_C => alu .or (.reg .c)
  | .or_D => alu .or (.reg .d)
  | .or_E => alu .or (.reg .e)
  | .or_H => alu .or (.reg .h)
  | .or_L => alu .or (.reg .l)
  | .or_mHL => alu .or .atHL
  | .or_A => alu .or (.reg .a)
  | .cp_B => alu .cp (.reg .b)
  | .cp_C => alu .cp (.reg .c)
  | .cp_D => alu .cp (.reg .d)
  | .cp_E => alu .cp (.reg .e)
  | .cp_H => alu .cp (.reg .h)
  | .cp_L => alu .cp (.reg .l)
  | .cp_mHL => alu .cp .atHL
  | .cp_A => alu .cp (.reg .a)
  | .ret_NZ => retCond .nz
  | .pop_BC => pop .bc
  | .push_BC => push .bc
  | .rst_00 => rst 0
  | .ret_Z => retCond .z
  | .ret => ret
  | .cbPrefix => cbPrefix
  | .rst_08 => rst 1
  | .ret_NC => retCond .nc
  | .pop_DE => pop .de
  | .invalid_D3 => invalid_D3
  | .push_DE => push .de
  | .rst_10 => rst 2
  | .ret_C => retCond .c
  | .reti => reti
  | .invalid_DB => invalid_DB
  | .invalid_DD => invalid_DD
  | .rst_18 => rst 3
  | .pop_HL => pop .hl
  | .ld_mC_A => ld_mC_A
  | .invalid_E3 => invalid_E3
  | .invalid_E4 => invalid_E4
  | .push_HL => push .hl
  | .rst_20 => rst 4
  | .jp_mHL => jp_mHL
  | .invalid_EB => invalid_EB
  | .invalid_EC => invalid_EC
  | .invalid_ED => invalid_ED
  | .rst_28 => rst 5
  | .pop_AF => pop .af
  | .ld_A_mC => ld_A_mC
  | .di => di
  | .invalid_F4 => invalid_F4
  | .push_AF => push .af
  | .rst_30 => rst 6
  | .ld_SP_HL => ld_SP_HL
  | .ei => ei
  | .invalid_FC => invalid_FC
  | .invalid_FD => invalid_FD
  | .rst_38 => rst 7
  | .rlc_B => rotate .rlc (.reg .b)
  | .rlc_C => rotate .rlc (.reg .c)
  | .rlc_D => rotate .rlc (.reg .d)
  | .rlc_E => rotate .rlc (.reg .e)
  | .rlc_H => rotate .rlc (.reg .h)
  | .rlc_L => rotate .rlc (.reg .l)
  | .rlc_mHL => rotate .rlc .atHL
  | .rlc_A => rotate .rlc (.reg .a)
  | .rrc_B => rotate .rrc (.reg .b)
  | .rrc_C => rotate .rrc (.reg .c)
  | .rrc_D => rotate .rrc (.reg .d)
  | .rrc_E => rotate .rrc (.reg .e)
  | .rrc_H => rotate .rrc (.reg .h)
  | .rrc_L => rotate .rrc (.reg .l)
  | .rrc_mHL => rotate .rrc .atHL
  | .rrc_A => rotate .rrc (.reg .a)
  | .rl_B => rotate .rl (.reg .b)
  | .rl_C => rotate .rl (.reg .c)
  | .rl_D => rotate .rl (.reg .d)
  | .rl_E => rotate .rl (.reg .e)
  | .rl_H => rotate .rl (.reg .h)
  | .rl_L => rotate .rl (.reg .l)
  | .rl_mHL => rotate .rl .atHL
  | .rl_A => rotate .rl (.reg .a)
  | .rr_B => rotate .rr (.reg .b)
  | .rr_C => rotate .rr (.reg .c)
  | .rr_D => rotate .rr (.reg .d)
  | .rr_E => rotate .rr (.reg .e)
  | .rr_H => rotate .rr (.reg .h)
  | .rr_L => rotate .rr (.reg .l)
  | .rr_mHL => rotate .rr .atHL
  | .rr_A => rotate .rr (.reg .a)
  | .sla_B => rotate .sla (.reg .b)
  | .sla_C => rotate .sla (.reg .c)
  | .sla_D => rotate .sla (.reg .d)
  | .sla_E => rotate .sla (.reg .e)
  | .sla_H => rotate .sla (.reg .h)
  | .sla_L => rotate .sla (.reg .l)
  | .sla_mHL => rotate .sla .atHL
  | .sla_A => rotate .sla (.reg .a)
  | .sra_B => rotate .sra (.reg .b)
  | .sra_C => rotate .sra (.reg .c)
  | .sra_D => rotate .sra (.reg .d)
  | .sra_E => rotate .sra (.reg .e)
  | .sra_H => rotate .sra (.reg .h)
  | .sra_L => rotate .sra (.reg .l)
  | .sra_mHL => rotate .sra .atHL
  | .sra_A => rotate .sra (.reg .a)
  | .swap_B => rotate .swap (.reg .b)
  | .swap_C => rotate .swap (.reg .c)
  | .swap_D => rotate .swap (.reg .d)
  | .swap_E => rotate .swap (.reg .e)
  | .swap_H => rotate .swap (.reg .h)
  | .swap_L => rotate .swap (.reg .l)
  | .swap_mHL => rotate .swap .atHL
  | .swap_A => rotate .swap (.reg .a)
  | .srl_B => rotate .srl (.reg .b)
  | .srl_C => rotate .srl (.reg .c)
  | .srl_D => rotate .srl (.reg .d)
  | .srl_E => rotate .srl (.reg .e)
  | .srl_H => rotate .srl (.reg .h)
  | .srl_L => rotate .srl (.reg .l)
  | .srl_mHL => rotate .srl .atHL
  | .srl_A => rotate .srl (.reg .a)
  | .bit_0_B => bit 0 (.reg .b)
  | .bit_0_C => bit 0 (.reg .c)
  | .bit_0_D => bit 0 (.reg .d)
  | .bit_0_E => bit 0 (.reg .e)
  | .bit_0_H => bit 0 (.reg .h)
  | .bit_0_L => bit 0 (.reg .l)
  | .bit_0_mHL => bit 0 .atHL
  | .bit_0_A => bit 0 (.reg .a)
  | .bit_1_B => bit 1 (.reg .b)
  | .bit_1_C => bit 1 (.reg .c)
  | .bit_1_D => bit 1 (.reg .d)
  | .bit_1_E => bit 1 (.reg .e)
  | .bit_1_H => bit 1 (.reg .h)
  | .bit_1_L => bit 1 (.reg .l)
  | .bit_1_mHL => bit 1 .atHL
  | .bit_1_A => bit 1 (.reg .a)
  | .bit_2_B => bit 2 (.reg .b)
  | .bit_2_C => bit 2 (.reg .c)
  | .bit_2_D => bit 2 (.reg .d)
  | .bit_2_E => bit 2 (.reg .e)
  | .bit_2_H => bit 2 (.reg .h)
  | .bit_2_L => bit 2 (.reg .l)
  | .bit_2_mHL => bit 2 .atHL
  | .bit_2_A => bit 2 (.reg .a)
  | .bit_3_B => bit 3 (.reg .b)
  | .bit_3_C => bit 3 (.reg .c)
  | .bit_3_D => bit 3 (.reg .d)
  | .bit_3_E => bit 3 (.reg .e)
  | .bit_3_H => bit 3 (.reg .h)
  | .bit_3_L => bit 3 (.reg .l)
  | .bit_3_mHL => bit 3 .atHL
  | .bit_3_A => bit 3 (.reg .a)
  | .bit_4_B => bit 4 (.reg .b)
  | .bit_4_C => bit 4 (.reg .c)
  | .bit_4_D => bit 4 (.reg .d)
  | .bit_4_E => bit 4 (.reg .e)
  | .bit_4_H => bit 4 (.reg .h)
  | .bit_4_L => bit 4 (.reg .l)
  | .bit_4_mHL => bit 4 .atHL
  | .bit_4_A => bit 4 (.reg .a)
  | .bit_5_B => bit 5 (.reg .b)
  | .bit_5_C => bit 5 (.reg .c)
  | .bit_5_D => bit 5 (.reg .d)
  | .bit_5_E => bit 5 (.reg .e)
  | .bit_5_H => bit 5 (.reg .h)
  | .bit_5_L => bit 5 (.reg .l)
  | .bit_5_mHL => bit 5 .atHL
  | .bit_5_A => bit 5 (.reg .a)
  | .bit_6_B => bit 6 (.reg .b)
  | .bit_6_C => bit 6 (.reg .c)
  | .bit_6_D => bit 6 (.reg .d)
  | .bit_6_E => bit 6 (.reg .e)
  | .bit_6_H => bit 6 (.reg .h)
  | .bit_6_L => bit 6 (.reg .l)
  | .bit_6_mHL => bit 6 .atHL
  | .bit_6_A => bit 6 (.reg .a)
  | .bit_7_B => bit 7 (.reg .b)
  | .bit_7_C => bit 7 (.reg .c)
  | .bit_7_D => bit 7 (.reg .d)
  | .bit_7_E => bit 7 (.reg .e)
  | .bit_7_H => bit 7 (.reg .h)
  | .bit_7_L => bit 7 (.reg .l)
  | .bit_7_mHL => bit 7 .atHL
  | .bit_7_A => bit 7 (.reg .a)
  | .res_0_B => res 0 (.reg .b)
  | .res_0_C => res 0 (.reg .c)
  | .res_0_D => res 0 (.reg .d)
  | .res_0_E => res 0 (.reg .e)
  | .res_0_H => res 0 (.reg .h)
  | .res_0_L => res 0 (.reg .l)
  | .res_0_mHL => res 0 .atHL
  | .res_0_A => res 0 (.reg .a)
  | .res_1_B => res 1 (.reg .b)
  | .res_1_C => res 1 (.reg .c)
  | .res_1_D => res 1 (.reg .d)
  | .res_1_E => res 1 (.reg .e)
  | .res_1_H => res 1 (.reg .h)
  | .res_1_L => res 1 (.reg .l)
  | .res_1_mHL => res 1 .atHL
  | .res_1_A => res 1 (.reg .a)
  | .res_2_B => res 2 (.reg .b)
  | .res_2_C => res 2 (.reg .c)
  | .res_2_D => res 2 (.reg .d)
  | .res_2_E => res 2 (.reg .e)
  | .res_2_H => res 2 (.reg .h)
  | .res_2_L => res 2 (.reg .l)
  | .res_2_mHL => res 2 .atHL
  | .res_2_A => res 2 (.reg .a)
  | .res_3_B => res 3 (.reg .b)
  | .res_3_C => res 3 (.reg .c)
  | .res_3_D => res 3 (.reg .d)
  | .res_3_E => res 3 (.reg .e)
  | .res_3_H => res 3 (.reg .h)
  | .res_3_L => res 3 (.reg .l)
  | .res_3_mHL => res 3 .atHL
  | .res_3_A => res 3 (.reg .a)
  | .res_4_B => res 4 (.reg .b)
  | .res_4_C => res 4 (.reg .c)
  | .res_4_D => res 4 (.reg .d)
  | .res_4_E => res 4 (.reg .e)
  | .res_4_H => res 4 (.reg .h)
  | .res_4_L => res 4 (.reg .l)
  | .res_4_mHL => res 4 .atHL
  | .res_4_A => res 4 (.reg .a)
  | .res_5_B => res 5 (.reg .b)
  | .res_5_C => res 5 (.reg .c)
  | .res_5_D => res 5 (.reg .d)
  | .res_5_E => res 5 (.reg .e)
  | .res_5_H => res 5 (.reg .h)
  | .res_5_L => res 5 (.reg .l)
  | .res_5_mHL => res 5 .atHL
  | .res_5_A => res 5 (.reg .a)
  | .res_6_B => res 6 (.reg .b)
  | .res_6_C => res 6 (.reg .c)
  | .res_6_D => res 6 (.reg .d)
  | .res_6_E => res 6 (.reg .e)
  | .res_6_H => res 6 (.reg .h)
  | .res_6_L => res 6 (.reg .l)
  | .res_6_mHL => res 6 .atHL
  | .res_6_A => res 6 (.reg .a)
  | .res_7_B => res 7 (.reg .b)
  | .res_7_C => res 7 (.reg .c)
  | .res_7_D => res 7 (.reg .d)
  | .res_7_E => res 7 (.reg .e)
  | .res_7_H => res 7 (.reg .h)
  | .res_7_L => res 7 (.reg .l)
  | .res_7_mHL => res 7 .atHL
  | .res_7_A => res 7 (.reg .a)
  | .set_0_B => set 0 (.reg .b)
  | .set_0_C => set 0 (.reg .c)
  | .set_0_D => set 0 (.reg .d)
  | .set_0_E => set 0 (.reg .e)
  | .set_0_H => set 0 (.reg .h)
  | .set_0_L => set 0 (.reg .l)
  | .set_0_mHL => set 0 .atHL
  | .set_0_A => set 0 (.reg .a)
  | .set_1_B => set 1 (.reg .b)
  | .set_1_C => set 1 (.reg .c)
  | .set_1_D => set 1 (.reg .d)
  | .set_1_E => set 1 (.reg .e)
  | .set_1_H => set 1 (.reg .h)
  | .set_1_L => set 1 (.reg .l)
  | .set_1_mHL => set 1 .atHL
  | .set_1_A => set 1 (.reg .a)
  | .set_2_B => set 2 (.reg .b)
  | .set_2_C => set 2 (.reg .c)
  | .set_2_D => set 2 (.reg .d)
  | .set_2_E => set 2 (.reg .e)
  | .set_2_H => set 2 (.reg .h)
  | .set_2_L => set 2 (.reg .l)
  | .set_2_mHL => set 2 .atHL
  | .set_2_A => set 2 (.reg .a)
  | .set_3_B => set 3 (.reg .b)
  | .set_3_C => set 3 (.reg .c)
  | .set_3_D => set 3 (.reg .d)
  | .set_3_E => set 3 (.reg .e)
  | .set_3_H => set 3 (.reg .h)
  | .set_3_L => set 3 (.reg .l)
  | .set_3_mHL => set 3 .atHL
  | .set_3_A => set 3 (.reg .a)
  | .set_4_B => set 4 (.reg .b)
  | .set_4_C => set 4 (.reg .c)
  | .set_4_D => set 4 (.reg .d)
  | .set_4_E => set 4 (.reg .e)
  | .set_4_H => set 4 (.reg .h)
  | .set_4_L => set 4 (.reg .l)
  | .set_4_mHL => set 4 .atHL
  | .set_4_A => set 4 (.reg .a)
  | .set_5_B => set 5 (.reg .b)
  | .set_5_C => set 5 (.reg .c)
  | .set_5_D => set 5 (.reg .d)
  | .set_5_E => set 5 (.reg .e)
  | .set_5_H => set 5 (.reg .h)
  | .set_5_L => set 5 (.reg .l)
  | .set_5_mHL => set 5 .atHL
  | .set_5_A => set 5 (.reg .a)
  | .set_6_B => set 6 (.reg .b)
  | .set_6_C => set 6 (.reg .c)
  | .set_6_D => set 6 (.reg .d)
  | .set_6_E => set 6 (.reg .e)
  | .set_6_H => set 6 (.reg .h)
  | .set_6_L => set 6 (.reg .l)
  | .set_6_mHL => set 6 .atHL
  | .set_6_A => set 6 (.reg .a)
  | .set_7_B => set 7 (.reg .b)
  | .set_7_C => set 7 (.reg .c)
  | .set_7_D => set 7 (.reg .d)
  | .set_7_E => set 7 (.reg .e)
  | .set_7_H => set 7 (.reg .h)
  | .set_7_L => set 7 (.reg .l)
  | .set_7_mHL => set 7 .atHL
  | .set_7_A => set 7 (.reg .a)

end Sys2Proof

namespace Sys2Proof.Machine

variable (s : State)

@[simp] theorem exec_ldRegReg (dst r : Reg8) : exec (Group.ldRegReg dst r) s =
    .next ((copyReg dst r s).chargeBase (BitVec.ofNat 8 (0x40 + 8 * dst.code + r.code))) := by
  cases dst <;> cases r <;> rfl
@[simp] theorem exec_ldRegMem (dst : Reg8) : exec (Group.ldRegMem dst) s =
    .next ((loadMem dst s).chargeBase (BitVec.ofNat 8 (0x46 + 8 * dst.code))) := by
  cases dst <;> rfl
@[simp] theorem exec_ldMemReg (r : Reg8) : exec (Group.ldMemReg r) s =
    .next ((storeReg r s).chargeBase (BitVec.ofNat 8 (0x70 + r.code))) := by
  cases r <;> rfl
@[simp] theorem exec_inc_reg (r : Reg8) : exec (Group.inc (.reg r)) s =
    .next ((incReg r s).chargeBase (BitVec.ofNat 8 (0x04 + 8 * r.code))) := by
  cases r <;> rfl
@[simp] theorem exec_dec_reg (r : Reg8) : exec (Group.dec (.reg r)) s =
    .next ((decReg r s).chargeBase (BitVec.ofNat 8 (0x05 + 8 * r.code))) := by
  cases r <;> rfl
@[simp] theorem exec_ldImm_reg (r : Reg8) (d8 : Byte) : exec (Group.ldImm (.reg r) d8) s =
    .next ((loadImm r d8 s).chargeBase (BitVec.ofNat 8 (0x06 + 8 * r.code))) := by
  cases r <;> rfl
@[simp] theorem exec_ldPair (p : Pair) (d16 : Word) : exec (Group.ldPair p d16) s =
    .next ((loadPair p d16 s).chargeBase (BitVec.ofNat 8 (0x01 + 16 * p.code))) := by
  cases p <;> rfl
@[simp] theorem exec_incPair (p : Pair) : exec (Group.incPair p) s =
    .next ((incPair p s).chargeBase (BitVec.ofNat 8 (0x03 + 16 * p.code))) := by
  cases p <;> rfl
@[simp] theorem exec_decPair (p : Pair) : exec (Group.decPair p) s =
    .next ((decPair p s).chargeBase (BitVec.ofNat 8 (0x0B + 16 * p.code))) := by
  cases p <;> rfl
@[simp] theorem exec_addHL (p : Pair) : exec (Group.addHL p) s =
    .next ((addHL p s).chargeBase (BitVec.ofNat 8 (0x09 + 16 * p.code))) := by
  cases p <;> rfl
@[simp] theorem exec_alu_reg (op : AluOp) (r : Reg8) : exec (Group.alu op (.reg r)) s =
    .next ((aluReg op r s).chargeBase (BitVec.ofNat 8 (0x80 + 8 * op.code + r.code))) := by
  cases op <;> cases r <;> rfl
@[simp] theorem exec_alu_atHL (op : AluOp) : exec (Group.alu op .atHL) s =
    .next ((aluMem op s).chargeBase (BitVec.ofNat 8 (0x86 + 8 * op.code))) := by
  cases op <;> rfl
@[simp] theorem exec_aluImm (op : AluOp) (d8 : Byte) : exec (Group.aluImm op d8) s =
    .next ((aluImm op d8 s).chargeBase (BitVec.ofNat 8 (0xC6 + 8 * op.code))) := by
  cases op <;> rfl
@[simp] theorem exec_jrCond (cc : Cond) (e : Byte) : exec (Group.jrCond cc e) s =
    .next ((jumpRelativeIf cc e s).chargeTransfer (BitVec.ofNat 8 (0x20 + 8 * cc.code)) (s.cond cc)) := by
  cases cc <;> rfl
@[simp] theorem exec_jpCond (cc : Cond) (a16 : Word) : exec (Group.jpCond cc a16) s =
    .next ((jumpIf cc a16 s).chargeTransfer (BitVec.ofNat 8 (0xC2 + 8 * cc.code)) (s.cond cc)) := by
  cases cc <;> rfl
@[simp] theorem exec_callCond (cc : Cond) (a16 : Word) : exec (Group.callCond cc a16) s =
    .next ((callIf cc a16 s).chargeTransfer (BitVec.ofNat 8 (0xC4 + 8 * cc.code)) (s.cond cc)) := by
  cases cc <;> rfl
@[simp] theorem exec_retCond (cc : Cond) : exec (Group.retCond cc) s =
    .next ((returnIf cc s).chargeTransfer (BitVec.ofNat 8 (0xC0 + 8 * cc.code)) (s.cond cc)) := by
  cases cc <;> rfl
@[simp] theorem exec_push (p : StackPair) : exec (Group.push p) s =
    .next ((pushPair p s).chargeBase (BitVec.ofNat 8 (0xC5 + 16 * p.code))) := by
  cases p <;> rfl
@[simp] theorem exec_pop (p : StackPair) : exec (Group.pop p) s =
    .next ((popPair p s).chargeBase (BitVec.ofNat 8 (0xC1 + 16 * p.code))) := by
  cases p <;> rfl
@[simp] theorem exec_rst (y : Fin 8) : exec (Group.rst y) s =
    .next ((restart y s).chargeBase (BitVec.ofNat 8 (0xC7 + 8 * y.val))) := by
  obtain ⟨y, hy⟩ := y
  interval_cases y <;> rfl
@[simp] theorem exec_rotate (op : RotOp) (o : Operand8) : exec (Group.rotate op o) s =
    .next ((rotate op o s).chargeExtended (BitVec.ofNat 8 (8 * op.code + o.code))) := by
  cases op <;> (rcases o with (_|_|_|_|_|_|_) | _ <;> rfl)
@[simp] theorem exec_bit (b : Fin 8) (o : Operand8) : exec (Group.bit b o) s =
    .next ((testBit b o s).chargeExtended (BitVec.ofNat 8 (0x40 + 8 * b.val + o.code))) := by
  obtain ⟨b, hb⟩ := b
  interval_cases b <;> (rcases o with (_|_|_|_|_|_|_) | _ <;> rfl)
@[simp] theorem exec_res (b : Fin 8) (o : Operand8) : exec (Group.res b o) s =
    .next ((resetBit b o s).chargeExtended (BitVec.ofNat 8 (0x80 + 8 * b.val + o.code))) := by
  obtain ⟨b, hb⟩ := b
  interval_cases b <;> (rcases o with (_|_|_|_|_|_|_) | _ <;> rfl)
@[simp] theorem exec_set (b : Fin 8) (o : Operand8) : exec (Group.set b o) s =
    .next ((setBit b o s).chargeExtended (BitVec.ofNat 8 (0xC0 + 8 * b.val + o.code))) := by
  obtain ⟨b, hb⟩ := b
  interval_cases b <;> (rcases o with (_|_|_|_|_|_|_) | _ <;> rfl)
@[simp] theorem exec_ld_mA16_SP (a16 : Word) : exec (.ld_mA16_SP a16) s = .next ((storeSP a16 s).chargeBase 0x08) := rfl
@[simp] theorem exec_jr_e (e : Byte) : exec (.jr_e e) s = .next ((jumpRelative e s).chargeBase 0x18) := rfl
@[simp] theorem exec_jp_a16 (a16 : Word) : exec (.jp_a16 a16) s = .next ((jumpTo a16 s).chargeBase 0xC3) := rfl
@[simp] theorem exec_call_a16 (a16 : Word) : exec (.call_a16 a16) s = .next ((call a16 s).chargeBase 0xCD) := rfl
@[simp] theorem exec_ldh_mA8_A (a8 : Byte) : exec (.ldh_mA8_A a8) s = .next ((storeA (highPageAddr a8) s).chargeBase 0xE0) := rfl
@[simp] theorem exec_add_SP_e (e : Byte) : exec (.add_SP_e e) s = .next ((addSP e s).chargeBase 0xE8) := rfl
@[simp] theorem exec_ld_mA16_A (a16 : Word) : exec (.ld_mA16_A a16) s = .next ((storeA a16 s).chargeBase 0xEA) := rfl
@[simp] theorem exec_ldh_A_mA8 (a8 : Byte) : exec (.ldh_A_mA8 a8) s = .next ((loadA (highPageAddr a8) s).chargeBase 0xF0) := rfl
@[simp] theorem exec_ld_HL_SPe (e : Byte) : exec (.ld_HL_SPe e) s = .next ((loadHLfromSP e s).chargeBase 0xF8) := rfl
@[simp] theorem exec_ld_A_mA16 (a16 : Word) : exec (.ld_A_mA16 a16) s = .next ((loadA a16 s).chargeBase 0xFA) := rfl
@[simp] theorem exec_nop : exec (.nop) s = .next ((noEffect s).chargeBase 0x00) := rfl
@[simp] theorem exec_ld_mBC_A : exec (.ld_mBC_A) s = .next ((storeA s.bc s).chargeBase 0x02) := rfl
@[simp] theorem exec_rlca : exec (.rlca) s = .next ((rotateA .rlc s).chargeBase 0x07) := rfl
@[simp] theorem exec_ld_A_mBC : exec (.ld_A_mBC) s = .next ((loadA s.bc s).chargeBase 0x0A) := rfl
@[simp] theorem exec_rrca : exec (.rrca) s = .next ((rotateA .rrc s).chargeBase 0x0F) := rfl
@[simp] theorem exec_stop : exec (.stop) s = .next ((noEffect s).chargeBase 0x10) := rfl
@[simp] theorem exec_ld_mDE_A : exec (.ld_mDE_A) s = .next ((storeA s.de s).chargeBase 0x12) := rfl
@[simp] theorem exec_rla : exec (.rla) s = .next ((rotateA .rl s).chargeBase 0x17) := rfl
@[simp] theorem exec_ld_A_mDE : exec (.ld_A_mDE) s = .next ((loadA s.de s).chargeBase 0x1A) := rfl
@[simp] theorem exec_rra : exec (.rra) s = .next ((rotateA .rr s).chargeBase 0x1F) := rfl
@[simp] theorem exec_ld_mHLI_A : exec (.ld_mHLI_A) s = .next ((storeAThenHL 1 s).chargeBase 0x22) := rfl
@[simp] theorem exec_daa : exec (.daa) s = .next ((decimalAdjustA s).chargeBase 0x27) := rfl
@[simp] theorem exec_ld_A_mHLI : exec (.ld_A_mHLI) s = .next ((loadAThenHL 1 s).chargeBase 0x2A) := rfl
@[simp] theorem exec_cpl : exec (.cpl) s = .next ((complementA s).chargeBase 0x2F) := rfl
@[simp] theorem exec_ld_mHLD_A : exec (.ld_mHLD_A) s = .next ((storeAThenHL (-1) s).chargeBase 0x32) := rfl
@[simp] theorem exec_scf : exec (.scf) s = .next ((setCarry s).chargeBase 0x37) := rfl
@[simp] theorem exec_ld_A_mHLD : exec (.ld_A_mHLD) s = .next ((loadAThenHL (-1) s).chargeBase 0x3A) := rfl
@[simp] theorem exec_ccf : exec (.ccf) s = .next ((complementCarry s).chargeBase 0x3F) := rfl
@[simp] theorem exec_halt : exec (.halt) s = .next ((halt s).chargeBase 0x76) := rfl
@[simp] theorem exec_ret : exec (.ret) s = .next ((popPC s).chargeBase 0xC9) := rfl
@[simp] theorem exec_cbPrefix : exec (.cbPrefix) s = .next (prefixed s) := rfl
@[simp] theorem exec_invalid_D3 : exec (.invalid_D3) s = .next ((invalidOpcode 0xD3 s).chargeBase 0xD3) := rfl
@[simp] theorem exec_reti : exec (.reti) s = .next ((returnFromInterrupt s).chargeBase 0xD9) := rfl
@[simp] theorem exec_invalid_DB : exec (.invalid_DB) s = .next ((invalidOpcode 0xDB s).chargeBase 0xDB) := rfl
@[simp] theorem exec_invalid_DD : exec (.invalid_DD) s = .next ((invalidOpcode 0xDD s).chargeBase 0xDD) := rfl
@[simp] theorem exec_ld_mC_A : exec (.ld_mC_A) s = .next ((storeA (highPageAddr s.c) s).chargeBase 0xE2) := rfl
@[simp] theorem exec_invalid_E3 : exec (.invalid_E3) s = .next ((invalidOpcode 0xE3 s).chargeBase 0xE3) := rfl
@[simp] theorem exec_invalid_E4 : exec (.invalid_E4) s = .next ((invalidOpcode 0xE4 s).chargeBase 0xE4) := rfl
@[simp] theorem exec_jp_mHL : exec (.jp_mHL) s = .next ((jumpHL s).chargeBase 0xE9) := rfl
@[simp] theorem exec_invalid_EB : exec (.invalid_EB) s = .next ((invalidOpcode 0xEB s).chargeBase 0xEB) := rfl
@[simp] theorem exec_invalid_EC : exec (.invalid_EC) s = .next ((invalidOpcode 0xEC s).chargeBase 0xEC) := rfl
@[simp] theorem exec_invalid_ED : exec (.invalid_ED) s = .next ((invalidOpcode 0xED s).chargeBase 0xED) := rfl
@[simp] theorem exec_ld_A_mC : exec (.ld_A_mC) s = .next ((loadA (highPageAddr s.c) s).chargeBase 0xF2) := rfl
@[simp] theorem exec_di : exec (.di) s = .next ((disableInterrupts s).chargeBase 0xF3) := rfl
@[simp] theorem exec_invalid_F4 : exec (.invalid_F4) s = .next ((invalidOpcode 0xF4 s).chargeBase 0xF4) := rfl
@[simp] theorem exec_ld_SP_HL : exec (.ld_SP_HL) s = .next ((copyHLtoSP s).chargeBase 0xF9) := rfl
@[simp] theorem exec_ei : exec (.ei) s = .next ((enableInterrupts s).chargeBase 0xFB) := rfl
@[simp] theorem exec_invalid_FC : exec (.invalid_FC) s = .next ((invalidOpcode 0xFC s).chargeBase 0xFC) := rfl
@[simp] theorem exec_invalid_FD : exec (.invalid_FD) s = .next ((invalidOpcode 0xFD s).chargeBase 0xFD) := rfl
@[simp] theorem exec_inc_mHL : exec (.inc_mHL) s = .next ((incMem s).chargeBase 0x34) := rfl
@[simp] theorem exec_dec_mHL : exec (.dec_mHL) s = .next ((decMem s).chargeBase 0x35) := rfl
@[simp] theorem exec_ld_mHL_d8 (d8 : Byte) : exec (.ld_mHL_d8 d8) s = .next ((storeImm d8 s).chargeBase 0x36) := rfl

@[simp] theorem exec_inc_atHL : exec (Group.inc .atHL) s = .next ((incMem s).chargeBase 0x34) := rfl
@[simp] theorem exec_dec_atHL : exec (Group.dec .atHL) s = .next ((decMem s).chargeBase 0x35) := rfl
@[simp] theorem exec_ldImm_atHL (d8 : Byte) : exec (Group.ldImm .atHL d8) s = .next ((storeImm d8 s).chargeBase 0x36) := rfl

end Sys2Proof.Machine
end

