-- ==== Sys2Proof/Laws/Flags.lean ====
section
/-! SUPPORT. The flag layer: the two representations of N and H read alike after any write (rules R45 to R47), and the
flags an operation leaves. -/

namespace Sys2Proof.Machine

/-! ## What a row of deferred fields reads as -/

@[simp] theorem ofAdd_n (a b : Byte) (c : Bool) : (NHFlags.lazyNH (Deferred.ofAdd a b c)).n = false := rfl
@[simp] theorem ofSub_n (a b : Byte) (c : Bool) : (NHFlags.lazyNH (Deferred.ofSub a b c)).n = true := rfl
@[simp] theorem ofAdd16_n (a b : Word) : (NHFlags.lazyNH (Deferred.ofAdd16 a b)).n = false := rfl

@[simp] theorem ofAdd_h (a b : Byte) (c : Bool) : (NHFlags.lazyNH (Deferred.ofAdd a b c)).h = (add8 a b c).half := by
  simp [NHFlags.h, Deferred.ofAdd, add8]

@[simp] theorem ofSub_h (a b : Byte) (c : Bool) : (NHFlags.lazyNH (Deferred.ofSub a b c)).h = (sub8 a b c).half := by
  simp only [NHFlags.h, Deferred.ofSub, sub8, if_true]
  rfl

/-- R47: the carry out of the low bytes enters bit 8, so the half-carry of the high bytes is the carry out of bit 11. -/
@[simp] theorem ofAdd16_h (a b : Word) : (NHFlags.lazyNH (Deferred.ofAdd16 a b)).h = half16 a b := by
  have := a.isLt
  have := b.isLt
  rw [Deferred.ofAdd16, ofAdd_h]
  simp only [add8, half16, toNat_hi, toNat_lo, Bool.toNat_false, Nat.add_zero]
  by_cases h : a.toNat % 256 + b.toNat % 256 > 255
  · simp only [h, decide_true, Bool.toNat_true, decide_eq_decide]
    omega
  · simp only [h, decide_false, Bool.toNat_false, decide_eq_decide]
    omega

@[simp] theorem canonical_n (n h : Bool) : (NHFlags.lazyNH (Deferred.canonical n h)).n = n := by
  cases n <;> cases h <;> rfl

@[simp] theorem canonical_h (n h : Bool) : (NHFlags.lazyNH (Deferred.canonical n h)).h = h := by
  cases n <;> cases h <;> rfl

theorem canonical_wf (n h : Bool) : (Deferred.canonical n h).wf := by
  cases n <;> cases h <;> decide

theorem ofAdd_wf (a b : Byte) (c : Bool) : (Deferred.ofAdd a b c).wf := by
  simp [Deferred.wf, Deferred.ofAdd]

theorem ofSub_wf (a b : Byte) (c : Bool) : (Deferred.ofSub a b c).wf := by
  simp [Deferred.wf, Deferred.ofSub]

theorem NHFlags.write_wf {x : NHFlags} {d : Deferred} (n h : Bool) (hd : d.wf) : (x.write n h d).wf := by
  cases x
  · trivial
  · exact hd

/-- A row that reads as the bits it stands for leaves them, in either representation. -/
theorem NHFlags.write_reads {n h : Bool} {d : Deferred} (x : NHFlags) (h1 : (NHFlags.lazyNH d).n = n)
    (h2 : (NHFlags.lazyNH d).h = h) : (x.write n h d).n = n ∧ (x.write n h d).h = h := by
  cases x
  · exact ⟨rfl, rfl⟩
  · exact ⟨h1, h2⟩

/-! ## The flags after a write -/

theorem setFlags_flags {n h : Bool} {d : Deferred} (z c : Bool) (s : State) (h1 : (NHFlags.lazyNH d).n = n)
    (h2 : (NHFlags.lazyNH d).h = h) : FlagsAre z n h c (s.setFlags z n h c d) :=
  ⟨rfl, (NHFlags.write_reads _ h1 h2).1, (NHFlags.write_reads _ h1 h2).2, rfl⟩

theorem setConstFlags_flags (z n h c : Bool) (s : State) : FlagsAre z n h c (s.setConstFlags z n h c) :=
  setFlags_flags z c s (canonical_n _ _) (canonical_h _ _)

theorem FlagsAre.congr {z n h c : Bool} {s t : State} (h1 : FlagsAre z n h c s) (h2 : SameFlags s t) :
    FlagsAre z n h c t := by
  obtain ⟨a, b, d⟩ := h2
  obtain ⟨p, q, r, u⟩ := h1
  exact ⟨a.trans p, by rw [State.fN, b]; exact q, by rw [State.fH, b]; exact r, d.trans u⟩

/-! ## The direct state a state stands for -/

/-- R46: writing flags and then reading them as bits is writing the bits. -/
theorem NHFlags.direct_write {n h : Bool} {d : Deferred} (x y : NHFlags) (p q : Bool)
    (h1 : (NHFlags.lazyNH d).n = n) (h2 : (NHFlags.lazyNH d).h = h) (hy : y = .direct p q) :
    NHFlags.direct (x.write n h d).n (x.write n h d).h = y.write n h d := by
  subst hy
  obtain ⟨e1, e2⟩ := NHFlags.write_reads x h1 h2
  rw [e1, e2]
  rfl

theorem toDirect_setFlags {n h : Bool} {d : Deferred} (z c : Bool) (s : State) (h1 : (NHFlags.lazyNH d).n = n)
    (h2 : (NHFlags.lazyNH d).h = h) : (s.setFlags z n h c d).toDirect = s.toDirect.setFlags z n h c d := by
  simp only [State.toDirect, State.setFlags, State.fN, State.fH]
  rw [NHFlags.direct_write s.nh _ _ _ h1 h2 rfl]

end Sys2Proof.Machine
end

