-- ==== Sys2Proof/Laws/Interrupts.lean ====
section
/-! SUPPORT. The interrupt check: what it does in each of its cases, said once (rules R290 to R294). -/

namespace Sys2Proof.Machine

/-- R288: the line the check picks is the winner. -/
theorem lowestLine_of_isWinner {n : Fin 5} {s : State} (h : IsWinner n s) : lowestLine s.requests = n := by
  obtain ⟨h1, h2⟩ := h
  generalize s.requests = m at h1 h2
  revert m
  revert n
  decide

theorem requests_ne_zero_of_isWinner {n : Fin 5} {s : State} (h : IsWinner n s) : s.requests ≠ 0 := by
  intro h0
  have := h.1
  simp [h0] at this

/-- R288: with a pending and enabled request there is a winner, and it is the line the check picks. -/
theorem isWinner_lowestLine {s : State} (h : s.requests ≠ 0) : IsWinner (lowestLine s.requests) s := by
  unfold IsWinner
  generalize s.requests = m at h
  revert m
  decide

theorem isWinner_unique {n m : Fin 5} {s : State} (h : IsWinner n s) (h' : IsWinner m s) : n = m :=
  (lowestLine_of_isWinner h).symm.trans (lowestLine_of_isWinner h')

/-- R290: the check has three outcomes: nothing, the wake-up alone, and the entry. -/
theorem serviceInterrupt_cases (s : State) :
    (s.requests = 0 ∨ (s.ime = false ∧ s.halted = false)) ∧ serviceInterrupt s = s ∨
    s.requests ≠ 0 ∧ s.ime = false ∧ s.halted = true ∧ serviceInterrupt s = { s with halted := false } ∨
    s.requests ≠ 0 ∧ s.ime = true ∧
      serviceInterrupt s = enterInterrupt (lowestLine s.requests) { s with halted := false } := by
  by_cases hr : s.requests = 0
  · exact .inl ⟨.inl hr, by simp [serviceInterrupt, hr]⟩
  · have hr' : (s.requests != 0) = true := by simpa using hr
    cases hi : s.ime
    · cases hh : s.halted
      · exact .inl ⟨.inr ⟨rfl, rfl⟩, by simp [serviceInterrupt, hi, hh]⟩
      · exact .inr (.inl ⟨hr, rfl, rfl, by simp only [serviceInterrupt, hi, hh, hr', Bool.or_true, Bool.and_self, if_true,
          Bool.false_eq_true, if_false]⟩)
    · exact .inr (.inr ⟨hr, rfl, by simp only [serviceInterrupt, hi, hr', Bool.true_or, Bool.and_self, if_true]⟩)

section Enter

variable (n : Fin 5) (s : State)

@[simp] theorem enterInterrupt_ime : (enterInterrupt n s).ime = false := by simp [enterInterrupt]
@[simp] theorem enterInterrupt_halted : (enterInterrupt n s).halted = s.halted := by simp [enterInterrupt]
@[simp] theorem enterInterrupt_pc : (enterInterrupt n s).pc = entryAddress s.params n := by simp [enterInterrupt]
@[simp] theorem enterInterrupt_sp : (enterInterrupt n s).sp = s.sp - 2 := by simp [enterInterrupt]
@[simp] theorem enterInterrupt_fZ : (enterInterrupt n s).fZ = s.fZ := by simp [enterInterrupt]
@[simp] theorem enterInterrupt_nh : (enterInterrupt n s).nh = s.nh := by simp [enterInterrupt]
@[simp] theorem enterInterrupt_fC : (enterInterrupt n s).fC = s.fC := by simp [enterInterrupt]
@[simp] theorem enterInterrupt_params : (enterInterrupt n s).params = s.params := by simp [enterInterrupt]
@[simp] theorem enterInterrupt_cycles :
    (enterInterrupt n s).cycles = addCount s.cycles Config.irqEntryCycles.val := by simp [enterInterrupt]
@[simp] theorem enterInterrupt_reg (r : Reg8) : (enterInterrupt n s).reg r = s.reg r := by
  cases r <;> simp [State.reg, enterInterrupt]

/-- R292: an entry is the push with SP two lower, and then what this names. -/
theorem enterInterrupt_eq : enterInterrupt n s =
    { push16 s.pc s with
      ime := false
      pc := entryAddress s.params n
      irqPending := (push16 s.pc s).irqPending &&& ~~~(1#5 <<< n.val)
      trace := (push16 s.pc s).trace ++ [.irqClear n]
      cycles := addCount s.cycles Config.irqEntryCycles.val } := by
  have h : push16 s.pc { s with ime := false } = { push16 s.pc s with ime := false } := by
    simp only [push16_eq]
    have hw : ∀ (a : Word) (v : Byte) (u : State),
        memWrite a v { u with ime := false } = { memWrite a v u with ime := false } := by
      intro a v u
      have hk : ({ u with ime := false } : State).kindAt a = u.kindAt a := rfl
      unfold memWrite
      rw [hk]
      split <;> rfl
    rw [hw, hw]
  simp only [enterInterrupt, h, State.clearRequest, State.log, State.charge, push16_params, push16_cycles]

/-- R292: the calls of an entry, two stack writes and the acknowledgement, and what they leave behind the bus. -/
theorem enterInterrupt_busAfter :
    (enterInterrupt n s).trace = s.trace ++
      [writeCall (s.sp - 1) (hi s.pc) s, writeCall (s.sp - 2) (lo s.pc) (memWrite (s.sp - 1) (hi s.pc) s), .irqClear n] ∧
    (s.noDevice [s.sp - 1, s.sp - 2] →
      SameBytesBut [s.sp - 1, s.sp - 2] s (enterInterrupt n s) ∧ (enterInterrupt n s).busMap = s.busMap ∧
      (enterInterrupt n s).irqPending = s.irqPending &&& ~~~(1#5 <<< n.val) ∧
      (enterInterrupt n s).irqEnabled = s.irqEnabled ∧ (enterInterrupt n s).oracle = s.oracle) := by
  obtain ⟨h1, h2⟩ := push16_busAfter s.pc s
  rw [enterInterrupt_eq]
  refine ⟨by simp [h1], fun hd => ?_⟩
  obtain ⟨k1, k2, k3, k4, k5⟩ := h2 hd
  exact ⟨k1, k2, by simp only [k3], k4, k5⟩

theorem enterInterrupt_storedBytes :
    StoredBytes [(s.sp - 1, hi s.pc), (s.sp - 2, lo s.pc)] s (enterInterrupt n s) := by
  rw [enterInterrupt_eq]
  exact push16_storedBytes s.pc s

theorem enterInterrupt_wf {s : State} (hm : Memory.wf s.mem) : Memory.wf (enterInterrupt n s).mem := by
  rw [enterInterrupt_eq]
  exact push16_wf s.pc hm

end Enter

@[simp] theorem serviceInterrupt_params (s : State) : (serviceInterrupt s).params = s.params := by
  rcases serviceInterrupt_cases s with ⟨-, h⟩ | ⟨-, -, -, h⟩ | ⟨-, -, h⟩ <;> simp [h]

/-- The check keeps memory in canonical form. -/
theorem serviceInterrupt_wf {s : State} (hm : Memory.wf s.mem) : Memory.wf (serviceInterrupt s).mem := by
  rcases serviceInterrupt_cases s with ⟨-, h⟩ | ⟨-, -, -, h⟩ | ⟨-, -, h⟩
  · rwa [h]
  · rwa [h]
  · rw [h]
    exact enterInterrupt_wf (s := { s with halted := false }) _ hm

@[simp] theorem serviceInterrupt_nh (s : State) : (serviceInterrupt s).nh = s.nh := by
  rcases serviceInterrupt_cases s with ⟨-, h⟩ | ⟨-, -, -, h⟩ | ⟨-, -, h⟩ <;> simp [h]

/-- R298: what the check adds to the count. -/
theorem serviceInterrupt_cycles (s : State) :
    (serviceInterrupt s).cycles =
      if s.ime && s.requests != 0 then addCount s.cycles Config.irqEntryCycles.val else s.cycles := by
  rcases serviceInterrupt_cases s with ⟨h0 | ⟨h0, -⟩, h⟩ | ⟨-, h0, -, h⟩ | ⟨h1, h0, h⟩ <;> simp [h, h0]
  exact fun h' => absurd h' h1

end Sys2Proof.Machine
end

