-- ==== Sys2Proof/Laws/Step.lean ====
section
/-! SUPPORT. What a step can do, said once: every instruction answers a next state; a step is a halted step or the
execution of one complete instruction; the extended group through rule R115's fields. -/

namespace Sys2Proof.Machine

/-- R117, R240: the instruction a second byte selects, executed, is the extended operation of that byte. -/
theorem exec_decodeExtended (op2 : Byte) (s : State) :
    exec (decodeExtended op2) s = .next ((extended op2 s).chargeExtended op2) := by
  have h0 : ∀ op2 : Byte, fieldX op2 = 0 →
      BitVec.ofNat 8 (8 * (RotOp.ofSelector (fieldY op2)).code + (Operand8.ofSelector (fieldZ op2)).code) = op2 := by decide
  have h1 : ∀ op2 : Byte, fieldX op2 = 1 →
      BitVec.ofNat 8 (0x40 + 8 * (Fin.ofNat 8 (fieldY op2)).val + (Operand8.ofSelector (fieldZ op2)).code) = op2 := by
    decide
  have h2 : ∀ op2 : Byte, fieldX op2 = 2 →
      BitVec.ofNat 8 (0x80 + 8 * (Fin.ofNat 8 (fieldY op2)).val + (Operand8.ofSelector (fieldZ op2)).code) = op2 := by
    decide
  have h3 : ∀ op2 : Byte, fieldX op2 ≠ 0 → fieldX op2 ≠ 1 → fieldX op2 ≠ 2 →
      BitVec.ofNat 8 (0xC0 + 8 * (Fin.ofNat 8 (fieldY op2)).val + (Operand8.ofSelector (fieldZ op2)).code) = op2 := by
    decide
  unfold decodeExtended extended
  dsimp only
  split
  · rename_i h; rw [exec_rotate, h0 op2 h] <;> simp only [h]
  · rename_i h; rw [exec_bit, h1 op2 h] <;> simp only [h]
  · rename_i h; rw [exec_res, h2 op2 h] <;> simp only [h]
  · rename_i g1 g2 g3; rw [exec_set, h3 op2 g1 g2 g3] <;> split <;> first | contradiction | rfl

/-- R115: every prefixed instruction is selected by its second byte. -/
theorem rotate_eq_decodeExtended (op : RotOp) (o : Operand8) :
    Group.rotate op o = decodeExtended (BitVec.ofNat 8 (8 * op.code + o.code)) := by
  cases op <;> (rcases o with (_ | _ | _ | _ | _ | _ | _) | _) <;> rfl

theorem bit_eq_decodeExtended (b : Fin 8) (o : Operand8) :
    Group.bit b o = decodeExtended (BitVec.ofNat 8 (64 + 8 * b.val + o.code)) := by
  revert b; (rcases o with (_ | _ | _ | _ | _ | _ | _) | _) <;> decide

theorem res_eq_decodeExtended (b : Fin 8) (o : Operand8) :
    Group.res b o = decodeExtended (BitVec.ofNat 8 (128 + 8 * b.val + o.code)) := by
  revert b; (rcases o with (_ | _ | _ | _ | _ | _ | _) | _) <;> decide

theorem set_eq_decodeExtended (b : Fin 8) (o : Operand8) :
    Group.set b o = decodeExtended (BitVec.ofNat 8 (192 + 8 * b.val + o.code)) := by
  revert b; (rcases o with (_ | _ | _ | _ | _ | _ | _) | _) <;> decide

/-- R325: no instruction stops. -/
theorem exec_answers (i : Instr) (s : State) : ∃ t, exec i s = .next t := by
  induction i using Instr.byFamily with
  | inc o => cases o <;> exact ⟨_, by simp only [exec_inc_reg, exec_inc_atHL]; rfl⟩
  | dec o => cases o <;> exact ⟨_, by simp only [exec_dec_reg, exec_dec_atHL]; rfl⟩
  | ldImm o d8 => cases o <;> exact ⟨_, by simp only [exec_ldImm_reg, exec_ldImm_atHL]; rfl⟩
  | alu op o => cases o <;> exact ⟨_, by simp only [exec_alu_reg, exec_alu_atHL]; rfl⟩
  | _ => exact ⟨_, by first | rfl | simp only [exec_ldRegReg, exec_ldRegMem, exec_ldMemReg, exec_ldPair, exec_incPair,
      exec_decPair, exec_addHL, exec_aluImm, exec_jrCond, exec_jpCond, exec_callCond, exec_retCond, exec_push, exec_pop,
      exec_rst, exec_rotate, exec_bit, exec_res, exec_set]; rfl⟩

/-- R116: the bytes of a fetched instruction decode to a complete instruction, with none left over. -/
theorem decode_fetchInstruction (s : State) :
    ∃ i : Instr, i.wf = true ∧ decode (fetchInstruction s).1 = .ok (i, []) ∧ encode i = (fetchInstruction s).1 := by
  obtain ⟨op, rest, h, hl⟩ := fetchInstruction_fst s
  rw [h]
  by_cases hcb : op = 0xCB
  · subst hcb
    match rest, hl with
    | [b], _ => exact ⟨decodeExtended b, wf_decodeExtended b, rfl, encode_decodeExtended b⟩
  · rw [decode_of_ne_cb hcb]
    rcases decodePrimary_shape hcb with ⟨j, h1, h2, h3, h4⟩ | ⟨f, h1, h2, h4⟩ | ⟨f, h1, h2, h4⟩ <;>
      rw [h4] at hl <;> rw [h1]
    · match rest, hl with
      | [], _ => exact ⟨j, h2, rfl, h3⟩
    · match rest, hl with
      | [b], _ => exact ⟨f b, (h2 b).1, rfl, (h2 b).2⟩
    · match rest, hl with
      | [b, c], _ => exact ⟨f (join c b), (h2 _).1, rfl, by rw [(h2 _).2, lo_join, hi_join]⟩

/-- R298: a step is a halted step, or the execution of the complete instruction at PC. -/
theorem step_cases (s : State) :
    (serviceInterrupt s.beginStep).halted = true ∧ step s = .next ((serviceInterrupt s.beginStep).charge 4) ∨
    (serviceInterrupt s.beginStep).halted = false ∧ ∃ i : Instr, i.wf = true ∧
      encode i = (fetchInstruction (serviceInterrupt s.beginStep)).1 ∧
      step s = exec i (fetchInstruction (serviceInterrupt s.beginStep)).2 := by
  generalize hu : serviceInterrupt s.beginStep = u
  by_cases h : u.halted = true
  · exact .inl ⟨h, by simp [step, hu, h, haltedStep]⟩
  · refine .inr ⟨by simpa using h, ?_⟩
    obtain ⟨i, hw, hd, he⟩ := decode_fetchInstruction u
    exact ⟨i, hw, he, by simp [step, hu, h, runInstruction, hd]⟩

end Sys2Proof.Machine
end

