-- ==== Sys2Proof/Tests/Slice0.lean ====
section
/-! SUPPORT. Tests: the decode maps written out from rules R110 and R115, steps whose results the spec's worked examples
and vectors give, and a witness for the hypotheses of each statement. -/

namespace Sys2Proof.Tests

open Sys2Proof Sys2Proof.Machine

/-! ## Well-formedness and decoding -/

/-- The only check: the prefix byte alone is not a complete instruction. -/
theorem test_prefix_alone_is_refused : Instr.wf .cbPrefix = false := by decide

theorem test_complete_instruction_is_accepted : Instr.wf (.jp_NZ_a16 0xFFFF) = true := by decide

/-- What the decoder answers for complete instructions, each alone in its list. -/
def readAll (words : List (List Byte)) : List Instr :=
  words.filterMap fun w =>
    match decode w with
    | .ok (i, []) => some i
    | _ => none

theorem test_no_bytes_are_rejected : decode [] = .error .empty := by rfl

theorem test_missing_operand_is_rejected : decode [0xC3, 0x00] = .error .truncated := by rfl

theorem test_prefix_alone_is_the_term_that_is_refused : decode [0xCB] = .ok (.cbPrefix, []) := by rfl

theorem test_table_word_of_extended_row : decodeTableWord 16 0xCB86 = some .res_0_mHL := by rfl

theorem test_table_word_of_one_byte_row : decodeTableWord 8 0x3C = some .inc_A := by rfl

theorem test_table_word_with_operand_bytes_zero : decodeTableWord 8 0xC3 = some (.jp_a16 0x0000) := by rfl

/-! ### Words bit by bit

One for each family, from the bit patterns of rules R111 and R115. -/

/-- R130: 01 yyy zzz with y = 2 (D), z = 7 (A). -/
theorem test_bits_ld_D_A : decode [0b01010111] = .ok (.ld_D_A, []) := by rfl

/-- R160: 00 pp0 001 with p = 3 (SP), low byte first. -/
theorem test_bits_ld_SP_d16 : decode [0b00110001, 0xFE, 0xFF] = .ok (.ld_SP_d16 0xFFFE, []) := by rfl

/-- R173: 00 yyy 101 with y = 4 (H). -/
theorem test_bits_dec_H : decode [0b00100101] = .ok (.dec_H, []) := by rfl

/-- R184: 10 yyy zzz with y = 3 (SBC), z = 4 (H). -/
theorem test_bits_sbc_A_H : decode [0b10011100] = .ok (.sbc_A_H, []) := by rfl

/-- R200: 00 pp1 001 with p = 2 (HL). -/
theorem test_bits_add_HL_HL : decode [0b00101001] = .ok (.add_HL_HL, []) := by rfl

/-- R217: 110 cc 100 with cc = 2 (NC). -/
theorem test_bits_call_NC : decode [0b11010100, 0x34, 0x12] = .ok (.call_NC_a16 0x1234, []) := by rfl

/-- R232, R234: 11 pp0 101 with p = 3 (AF). -/
theorem test_bits_push_AF : decode [0b11110101] = .ok (.push_AF, []) := by rfl

/-- R251: prefix, then 01 bbb zzz with b = 5, z = 6 ((HL)). -/
theorem test_bits_bit_5_mHL : decode [0b11001011, 0b01101110] = .ok (.bit_5_mHL, []) := by rfl

/-- R270: 01 110 110 is HALT. -/
theorem test_bits_halt : decode [0b01110110] = .ok (.halt, []) := by rfl

/-! ### The whole maps

R110 and R115, a row of sixteen at a time; operand bytes are 0x5A, or 0x34 0x12. -/

theorem test_decode_0x : readAll [
    [0x00], [0x01, 0x34, 0x12], [0x02], [0x03], [0x04], [0x05], [0x06, 0x5A], [0x07], [0x08, 0x34, 0x12], [0x09],
    [0x0A], [0x0B], [0x0C], [0x0D], [0x0E, 0x5A], [0x0F]] = [
    .nop, (.ld_BC_d16 0x1234), .ld_mBC_A, .inc_BC, .inc_B, .dec_B, (.ld_B_d8 0x5A), .rlca, (.ld_mA16_SP 0x1234),
    .add_HL_BC, .ld_A_mBC, .dec_BC, .inc_C, .dec_C, (.ld_C_d8 0x5A), .rrca] := by
  rfl

theorem test_decode_1x : readAll [
    [0x10], [0x11, 0x34, 0x12], [0x12], [0x13], [0x14], [0x15], [0x16, 0x5A], [0x17], [0x18, 0x5A], [0x19], [0x1A],
    [0x1B], [0x1C], [0x1D], [0x1E, 0x5A], [0x1F]] = [
    .stop, (.ld_DE_d16 0x1234), .ld_mDE_A, .inc_DE, .inc_D, .dec_D, (.ld_D_d8 0x5A), .rla, (.jr_e 0x5A),
    .add_HL_DE, .ld_A_mDE, .dec_DE, .inc_E, .dec_E, (.ld_E_d8 0x5A), .rra] := by
  rfl

theorem test_decode_2x : readAll [
    [0x20, 0x5A], [0x21, 0x34, 0x12], [0x22], [0x23], [0x24], [0x25], [0x26, 0x5A], [0x27], [0x28, 0x5A], [0x29],
    [0x2A], [0x2B], [0x2C], [0x2D], [0x2E, 0x5A], [0x2F]] = [
    (.jr_NZ_e 0x5A), (.ld_HL_d16 0x1234), .ld_mHLI_A, .inc_HL, .inc_H, .dec_H, (.ld_H_d8 0x5A), .daa,
    (.jr_Z_e 0x5A), .add_HL_HL, .ld_A_mHLI, .dec_HL, .inc_L, .dec_L, (.ld_L_d8 0x5A), .cpl] := by
  rfl

theorem test_decode_3x : readAll [
    [0x30, 0x5A], [0x31, 0x34, 0x12], [0x32], [0x33], [0x34], [0x35], [0x36, 0x5A], [0x37], [0x38, 0x5A], [0x39],
    [0x3A], [0x3B], [0x3C], [0x3D], [0x3E, 0x5A], [0x3F]] = [
    (.jr_NC_e 0x5A), (.ld_SP_d16 0x1234), .ld_mHLD_A, .inc_SP, .inc_mHL, .dec_mHL, (.ld_mHL_d8 0x5A), .scf,
    (.jr_C_e 0x5A), .add_HL_SP, .ld_A_mHLD, .dec_SP, .inc_A, .dec_A, (.ld_A_d8 0x5A), .ccf] := by
  rfl

theorem test_decode_4x : readAll [
    [0x40], [0x41], [0x42], [0x43], [0x44], [0x45], [0x46], [0x47], [0x48], [0x49], [0x4A], [0x4B], [0x4C], [0x4D],
    [0x4E], [0x4F]] = [
    .ld_B_B, .ld_B_C, .ld_B_D, .ld_B_E, .ld_B_H, .ld_B_L, .ld_B_mHL, .ld_B_A, .ld_C_B, .ld_C_C, .ld_C_D, .ld_C_E,
    .ld_C_H, .ld_C_L, .ld_C_mHL, .ld_C_A] := by
  rfl

theorem test_decode_5x : readAll [
    [0x50], [0x51], [0x52], [0x53], [0x54], [0x55], [0x56], [0x57], [0x58], [0x59], [0x5A], [0x5B], [0x5C], [0x5D],
    [0x5E], [0x5F]] = [
    .ld_D_B, .ld_D_C, .ld_D_D, .ld_D_E, .ld_D_H, .ld_D_L, .ld_D_mHL, .ld_D_A, .ld_E_B, .ld_E_C, .ld_E_D, .ld_E_E,
    .ld_E_H, .ld_E_L, .ld_E_mHL, .ld_E_A] := by
  rfl

theorem test_decode_6x : readAll [
    [0x60], [0x61], [0x62], [0x63], [0x64], [0x65], [0x66], [0x67], [0x68], [0x69], [0x6A], [0x6B], [0x6C], [0x6D],
    [0x6E], [0x6F]] = [
    .ld_H_B, .ld_H_C, .ld_H_D, .ld_H_E, .ld_H_H, .ld_H_L, .ld_H_mHL, .ld_H_A, .ld_L_B, .ld_L_C, .ld_L_D, .ld_L_E,
    .ld_L_H, .ld_L_L, .ld_L_mHL, .ld_L_A] := by
  rfl

theorem test_decode_7x : readAll [
    [0x70], [0x71], [0x72], [0x73], [0x74], [0x75], [0x76], [0x77], [0x78], [0x79], [0x7A], [0x7B], [0x7C], [0x7D],
    [0x7E], [0x7F]] = [
    .ld_mHL_B, .ld_mHL_C, .ld_mHL_D, .ld_mHL_E, .ld_mHL_H, .ld_mHL_L, .halt, .ld_mHL_A, .ld_A_B, .ld_A_C, .ld_A_D,
    .ld_A_E, .ld_A_H, .ld_A_L, .ld_A_mHL, .ld_A_A] := by
  rfl

theorem test_decode_8x : readAll [
    [0x80], [0x81], [0x82], [0x83], [0x84], [0x85], [0x86], [0x87], [0x88], [0x89], [0x8A], [0x8B], [0x8C], [0x8D],
    [0x8E], [0x8F]] = [
    .add_A_B, .add_A_C, .add_A_D, .add_A_E, .add_A_H, .add_A_L, .add_A_mHL, .add_A_A, .adc_A_B, .adc_A_C, .adc_A_D,
    .adc_A_E, .adc_A_H, .adc_A_L, .adc_A_mHL, .adc_A_A] := by
  rfl

theorem test_decode_9x : readAll [
    [0x90], [0x91], [0x92], [0x93], [0x94], [0x95], [0x96], [0x97], [0x98], [0x99], [0x9A], [0x9B], [0x9C], [0x9D],
    [0x9E], [0x9F]] = [
    .sub_B, .sub_C, .sub_D, .sub_E, .sub_H, .sub_L, .sub_mHL, .sub_A, .sbc_A_B, .sbc_A_C, .sbc_A_D, .sbc_A_E,
    .sbc_A_H, .sbc_A_L, .sbc_A_mHL, .sbc_A_A] := by
  rfl

theorem test_decode_Ax : readAll [
    [0xA0], [0xA1], [0xA2], [0xA3], [0xA4], [0xA5], [0xA6], [0xA7], [0xA8], [0xA9], [0xAA], [0xAB], [0xAC], [0xAD],
    [0xAE], [0xAF]] = [
    .and_B, .and_C, .and_D, .and_E, .and_H, .and_L, .and_mHL, .and_A, .xor_B, .xor_C, .xor_D, .xor_E, .xor_H,
    .xor_L, .xor_mHL, .xor_A] := by
  rfl

theorem test_decode_Bx : readAll [
    [0xB0], [0xB1], [0xB2], [0xB3], [0xB4], [0xB5], [0xB6], [0xB7], [0xB8], [0xB9], [0xBA], [0xBB], [0xBC], [0xBD],
    [0xBE], [0xBF]] = [
    .or_B, .or_C, .or_D, .or_E, .or_H, .or_L, .or_mHL, .or_A, .cp_B, .cp_C, .cp_D, .cp_E, .cp_H, .cp_L, .cp_mHL,
    .cp_A] := by
  rfl

theorem test_decode_Cx : readAll [
    [0xC0], [0xC1], [0xC2, 0x34, 0x12], [0xC3, 0x34, 0x12], [0xC4, 0x34, 0x12], [0xC5], [0xC6, 0x5A], [0xC7],
    [0xC8], [0xC9], [0xCA, 0x34, 0x12], [0xCC, 0x34, 0x12], [0xCD, 0x34, 0x12], [0xCE, 0x5A], [0xCF]] = [
    .ret_NZ, .pop_BC, (.jp_NZ_a16 0x1234), (.jp_a16 0x1234), (.call_NZ_a16 0x1234), .push_BC, (.add_A_d8 0x5A),
    .rst_00, .ret_Z, .ret, (.jp_Z_a16 0x1234), (.call_Z_a16 0x1234), (.call_a16 0x1234), (.adc_A_d8 0x5A), .rst_08] := by
  rfl

theorem test_decode_Dx : readAll [
    [0xD0], [0xD1], [0xD2, 0x34, 0x12], [0xD3], [0xD4, 0x34, 0x12], [0xD5], [0xD6, 0x5A], [0xD7], [0xD8], [0xD9],
    [0xDA, 0x34, 0x12], [0xDB], [0xDC, 0x34, 0x12], [0xDD], [0xDE, 0x5A], [0xDF]] = [
    .ret_NC, .pop_DE, (.jp_NC_a16 0x1234), .invalid_D3, (.call_NC_a16 0x1234), .push_DE, (.sub_d8 0x5A), .rst_10,
    .ret_C, .reti, (.jp_C_a16 0x1234), .invalid_DB, (.call_C_a16 0x1234), .invalid_DD, (.sbc_A_d8 0x5A), .rst_18] := by
  rfl

theorem test_decode_Ex : readAll [
    [0xE0, 0x5A], [0xE1], [0xE2], [0xE3], [0xE4], [0xE5], [0xE6, 0x5A], [0xE7], [0xE8, 0x5A], [0xE9],
    [0xEA, 0x34, 0x12], [0xEB], [0xEC], [0xED], [0xEE, 0x5A], [0xEF]] = [
    (.ldh_mA8_A 0x5A), .pop_HL, .ld_mC_A, .invalid_E3, .invalid_E4, .push_HL, (.and_d8 0x5A), .rst_20,
    (.add_SP_e 0x5A), .jp_mHL, (.ld_mA16_A 0x1234), .invalid_EB, .invalid_EC, .invalid_ED, (.xor_d8 0x5A), .rst_28] := by
  rfl

theorem test_decode_Fx : readAll [
    [0xF0, 0x5A], [0xF1], [0xF2], [0xF3], [0xF4], [0xF5], [0xF6, 0x5A], [0xF7], [0xF8, 0x5A], [0xF9],
    [0xFA, 0x34, 0x12], [0xFB], [0xFC], [0xFD], [0xFE, 0x5A], [0xFF]] = [
    (.ldh_A_mA8 0x5A), .pop_AF, .ld_A_mC, .di, .invalid_F4, .push_AF, (.or_d8 0x5A), .rst_30, (.ld_HL_SPe 0x5A),
    .ld_SP_HL, (.ld_A_mA16 0x1234), .ei, .invalid_FC, .invalid_FD, (.cp_d8 0x5A), .rst_38] := by
  rfl

theorem test_decode_CB_0x : readAll [
    [0xCB, 0x00], [0xCB, 0x01], [0xCB, 0x02], [0xCB, 0x03], [0xCB, 0x04], [0xCB, 0x05], [0xCB, 0x06], [0xCB, 0x07],
    [0xCB, 0x08], [0xCB, 0x09], [0xCB, 0x0A], [0xCB, 0x0B], [0xCB, 0x0C], [0xCB, 0x0D], [0xCB, 0x0E], [0xCB, 0x0F]] = [
    .rlc_B, .rlc_C, .rlc_D, .rlc_E, .rlc_H, .rlc_L, .rlc_mHL, .rlc_A, .rrc_B, .rrc_C, .rrc_D, .rrc_E, .rrc_H,
    .rrc_L, .rrc_mHL, .rrc_A] := by
  rfl

theorem test_decode_CB_1x : readAll [
    [0xCB, 0x10], [0xCB, 0x11], [0xCB, 0x12], [0xCB, 0x13], [0xCB, 0x14], [0xCB, 0x15], [0xCB, 0x16], [0xCB, 0x17],
    [0xCB, 0x18], [0xCB, 0x19], [0xCB, 0x1A], [0xCB, 0x1B], [0xCB, 0x1C], [0xCB, 0x1D], [0xCB, 0x1E], [0xCB, 0x1F]] = [
    .rl_B, .rl_C, .rl_D, .rl_E, .rl_H, .rl_L, .rl_mHL, .rl_A, .rr_B, .rr_C, .rr_D, .rr_E, .rr_H, .rr_L, .rr_mHL,
    .rr_A] := by
  rfl

theorem test_decode_CB_2x : readAll [
    [0xCB, 0x20], [0xCB, 0x21], [0xCB, 0x22], [0xCB, 0x23], [0xCB, 0x24], [0xCB, 0x25], [0xCB, 0x26], [0xCB, 0x27],
    [0xCB, 0x28], [0xCB, 0x29], [0xCB, 0x2A], [0xCB, 0x2B], [0xCB, 0x2C], [0xCB, 0x2D], [0xCB, 0x2E], [0xCB, 0x2F]] = [
    .sla_B, .sla_C, .sla_D, .sla_E, .sla_H, .sla_L, .sla_mHL, .sla_A, .sra_B, .sra_C, .sra_D, .sra_E, .sra_H,
    .sra_L, .sra_mHL, .sra_A] := by
  rfl

theorem test_decode_CB_3x : readAll [
    [0xCB, 0x30], [0xCB, 0x31], [0xCB, 0x32], [0xCB, 0x33], [0xCB, 0x34], [0xCB, 0x35], [0xCB, 0x36], [0xCB, 0x37],
    [0xCB, 0x38], [0xCB, 0x39], [0xCB, 0x3A], [0xCB, 0x3B], [0xCB, 0x3C], [0xCB, 0x3D], [0xCB, 0x3E], [0xCB, 0x3F]] = [
    .swap_B, .swap_C, .swap_D, .swap_E, .swap_H, .swap_L, .swap_mHL, .swap_A, .srl_B, .srl_C, .srl_D, .srl_E,
    .srl_H, .srl_L, .srl_mHL, .srl_A] := by
  rfl

theorem test_decode_CB_4x : readAll [
    [0xCB, 0x40], [0xCB, 0x41], [0xCB, 0x42], [0xCB, 0x43], [0xCB, 0x44], [0xCB, 0x45], [0xCB, 0x46], [0xCB, 0x47],
    [0xCB, 0x48], [0xCB, 0x49], [0xCB, 0x4A], [0xCB, 0x4B], [0xCB, 0x4C], [0xCB, 0x4D], [0xCB, 0x4E], [0xCB, 0x4F]] = [
    .bit_0_B, .bit_0_C, .bit_0_D, .bit_0_E, .bit_0_H, .bit_0_L, .bit_0_mHL, .bit_0_A, .bit_1_B, .bit_1_C, .bit_1_D,
    .bit_1_E, .bit_1_H, .bit_1_L, .bit_1_mHL, .bit_1_A] := by
  rfl

theorem test_decode_CB_5x : readAll [
    [0xCB, 0x50], [0xCB, 0x51], [0xCB, 0x52], [0xCB, 0x53], [0xCB, 0x54], [0xCB, 0x55], [0xCB, 0x56], [0xCB, 0x57],
    [0xCB, 0x58], [0xCB, 0x59], [0xCB, 0x5A], [0xCB, 0x5B], [0xCB, 0x5C], [0xCB, 0x5D], [0xCB, 0x5E], [0xCB, 0x5F]] = [
    .bit_2_B, .bit_2_C, .bit_2_D, .bit_2_E, .bit_2_H, .bit_2_L, .bit_2_mHL, .bit_2_A, .bit_3_B, .bit_3_C, .bit_3_D,
    .bit_3_E, .bit_3_H, .bit_3_L, .bit_3_mHL, .bit_3_A] := by
  rfl

theorem test_decode_CB_6x : readAll [
    [0xCB, 0x60], [0xCB, 0x61], [0xCB, 0x62], [0xCB, 0x63], [0xCB, 0x64], [0xCB, 0x65], [0xCB, 0x66], [0xCB, 0x67],
    [0xCB, 0x68], [0xCB, 0x69], [0xCB, 0x6A], [0xCB, 0x6B], [0xCB, 0x6C], [0xCB, 0x6D], [0xCB, 0x6E], [0xCB, 0x6F]] = [
    .bit_4_B, .bit_4_C, .bit_4_D, .bit_4_E, .bit_4_H, .bit_4_L, .bit_4_mHL, .bit_4_A, .bit_5_B, .bit_5_C, .bit_5_D,
    .bit_5_E, .bit_5_H, .bit_5_L, .bit_5_mHL, .bit_5_A] := by
  rfl

theorem test_decode_CB_7x : readAll [
    [0xCB, 0x70], [0xCB, 0x71], [0xCB, 0x72], [0xCB, 0x73], [0xCB, 0x74], [0xCB, 0x75], [0xCB, 0x76], [0xCB, 0x77],
    [0xCB, 0x78], [0xCB, 0x79], [0xCB, 0x7A], [0xCB, 0x7B], [0xCB, 0x7C], [0xCB, 0x7D], [0xCB, 0x7E], [0xCB, 0x7F]] = [
    .bit_6_B, .bit_6_C, .bit_6_D, .bit_6_E, .bit_6_H, .bit_6_L, .bit_6_mHL, .bit_6_A, .bit_7_B, .bit_7_C, .bit_7_D,
    .bit_7_E, .bit_7_H, .bit_7_L, .bit_7_mHL, .bit_7_A] := by
  rfl

theorem test_decode_CB_8x : readAll [
    [0xCB, 0x80], [0xCB, 0x81], [0xCB, 0x82], [0xCB, 0x83], [0xCB, 0x84], [0xCB, 0x85], [0xCB, 0x86], [0xCB, 0x87],
    [0xCB, 0x88], [0xCB, 0x89], [0xCB, 0x8A], [0xCB, 0x8B], [0xCB, 0x8C], [0xCB, 0x8D], [0xCB, 0x8E], [0xCB, 0x8F]] = [
    .res_0_B, .res_0_C, .res_0_D, .res_0_E, .res_0_H, .res_0_L, .res_0_mHL, .res_0_A, .res_1_B, .res_1_C, .res_1_D,
    .res_1_E, .res_1_H, .res_1_L, .res_1_mHL, .res_1_A] := by
  rfl

theorem test_decode_CB_9x : readAll [
    [0xCB, 0x90], [0xCB, 0x91], [0xCB, 0x92], [0xCB, 0x93], [0xCB, 0x94], [0xCB, 0x95], [0xCB, 0x96], [0xCB, 0x97],
    [0xCB, 0x98], [0xCB, 0x99], [0xCB, 0x9A], [0xCB, 0x9B], [0xCB, 0x9C], [0xCB, 0x9D], [0xCB, 0x9E], [0xCB, 0x9F]] = [
    .res_2_B, .res_2_C, .res_2_D, .res_2_E, .res_2_H, .res_2_L, .res_2_mHL, .res_2_A, .res_3_B, .res_3_C, .res_3_D,
    .res_3_E, .res_3_H, .res_3_L, .res_3_mHL, .res_3_A] := by
  rfl

theorem test_decode_CB_Ax : readAll [
    [0xCB, 0xA0], [0xCB, 0xA1], [0xCB, 0xA2], [0xCB, 0xA3], [0xCB, 0xA4], [0xCB, 0xA5], [0xCB, 0xA6], [0xCB, 0xA7],
    [0xCB, 0xA8], [0xCB, 0xA9], [0xCB, 0xAA], [0xCB, 0xAB], [0xCB, 0xAC], [0xCB, 0xAD], [0xCB, 0xAE], [0xCB, 0xAF]] = [
    .res_4_B, .res_4_C, .res_4_D, .res_4_E, .res_4_H, .res_4_L, .res_4_mHL, .res_4_A, .res_5_B, .res_5_C, .res_5_D,
    .res_5_E, .res_5_H, .res_5_L, .res_5_mHL, .res_5_A] := by
  rfl

theorem test_decode_CB_Bx : readAll [
    [0xCB, 0xB0], [0xCB, 0xB1], [0xCB, 0xB2], [0xCB, 0xB3], [0xCB, 0xB4], [0xCB, 0xB5], [0xCB, 0xB6], [0xCB, 0xB7],
    [0xCB, 0xB8], [0xCB, 0xB9], [0xCB, 0xBA], [0xCB, 0xBB], [0xCB, 0xBC], [0xCB, 0xBD], [0xCB, 0xBE], [0xCB, 0xBF]] = [
    .res_6_B, .res_6_C, .res_6_D, .res_6_E, .res_6_H, .res_6_L, .res_6_mHL, .res_6_A, .res_7_B, .res_7_C, .res_7_D,
    .res_7_E, .res_7_H, .res_7_L, .res_7_mHL, .res_7_A] := by
  rfl

theorem test_decode_CB_Cx : readAll [
    [0xCB, 0xC0], [0xCB, 0xC1], [0xCB, 0xC2], [0xCB, 0xC3], [0xCB, 0xC4], [0xCB, 0xC5], [0xCB, 0xC6], [0xCB, 0xC7],
    [0xCB, 0xC8], [0xCB, 0xC9], [0xCB, 0xCA], [0xCB, 0xCB], [0xCB, 0xCC], [0xCB, 0xCD], [0xCB, 0xCE], [0xCB, 0xCF]] = [
    .set_0_B, .set_0_C, .set_0_D, .set_0_E, .set_0_H, .set_0_L, .set_0_mHL, .set_0_A, .set_1_B, .set_1_C, .set_1_D,
    .set_1_E, .set_1_H, .set_1_L, .set_1_mHL, .set_1_A] := by
  rfl

theorem test_decode_CB_Dx : readAll [
    [0xCB, 0xD0], [0xCB, 0xD1], [0xCB, 0xD2], [0xCB, 0xD3], [0xCB, 0xD4], [0xCB, 0xD5], [0xCB, 0xD6], [0xCB, 0xD7],
    [0xCB, 0xD8], [0xCB, 0xD9], [0xCB, 0xDA], [0xCB, 0xDB], [0xCB, 0xDC], [0xCB, 0xDD], [0xCB, 0xDE], [0xCB, 0xDF]] = [
    .set_2_B, .set_2_C, .set_2_D, .set_2_E, .set_2_H, .set_2_L, .set_2_mHL, .set_2_A, .set_3_B, .set_3_C, .set_3_D,
    .set_3_E, .set_3_H, .set_3_L, .set_3_mHL, .set_3_A] := by
  rfl

theorem test_decode_CB_Ex : readAll [
    [0xCB, 0xE0], [0xCB, 0xE1], [0xCB, 0xE2], [0xCB, 0xE3], [0xCB, 0xE4], [0xCB, 0xE5], [0xCB, 0xE6], [0xCB, 0xE7],
    [0xCB, 0xE8], [0xCB, 0xE9], [0xCB, 0xEA], [0xCB, 0xEB], [0xCB, 0xEC], [0xCB, 0xED], [0xCB, 0xEE], [0xCB, 0xEF]] = [
    .set_4_B, .set_4_C, .set_4_D, .set_4_E, .set_4_H, .set_4_L, .set_4_mHL, .set_4_A, .set_5_B, .set_5_C, .set_5_D,
    .set_5_E, .set_5_H, .set_5_L, .set_5_mHL, .set_5_A] := by
  rfl

theorem test_decode_CB_Fx : readAll [
    [0xCB, 0xF0], [0xCB, 0xF1], [0xCB, 0xF2], [0xCB, 0xF3], [0xCB, 0xF4], [0xCB, 0xF5], [0xCB, 0xF6], [0xCB, 0xF7],
    [0xCB, 0xF8], [0xCB, 0xF9], [0xCB, 0xFA], [0xCB, 0xFB], [0xCB, 0xFC], [0xCB, 0xFD], [0xCB, 0xFE], [0xCB, 0xFF]] = [
    .set_6_B, .set_6_C, .set_6_D, .set_6_E, .set_6_H, .set_6_L, .set_6_mHL, .set_6_A, .set_7_B, .set_7_C, .set_7_D,
    .set_7_E, .set_7_H, .set_7_L, .set_7_mHL, .set_7_A] := by
  rfl

/-! ## Steps

Each expected result is a worked example or corner case of the rule named, or a vector of spec/95. -/

/-- The base state of the vectors of spec/95. -/
def base : State :=
  { a := 0, b := 0, c := 0, d := 0, e := 0, h := 0, l := 0, sp := 0xD000, pc := 0x0100, fZ := false,
    nh := .direct false false, fC := false, ime := false, halted := false, irqPending := 0, irqEnabled := 0, mem := [],
    busMap := [], params := defaultParams, cycles := 0, trace := [], oracle := 0 }

/-- The unmapped range of the vectors of spec/95. -/
def unmappedRange : Region := { first := 0xA000, last := 0xBFFF, kind := .unmapped }

/-- The base state with the deferred representation of N and H. -/
def lazyBase : State := { base with nh := .lazyNH (Deferred.canonical false false) }

/-- One step from the state with the bytes at PC meets the check. -/
def gives (s : State) (bytes : List Byte) (check : State → State → Bool) : Bool :=
  match step (s.storeBytes bytes s.pc) with
  | .next t => check (s.storeBytes bytes s.pc) t
  | _ => false

/-- R130: B=0x12, C=0x34: B=0x34, PC+1, cost 4. -/
theorem test_ld_B_C : gives { base with b := 0x12, c := 0x34 } [0x41]
    (fun _ t => t.b = 0x34 ∧ t.pc = 0x0101 ∧ t.cycles = 4) = true := by decide

/-- R131, vector V40.5. -/
theorem test_ld_H_from_HL_uses_old_HL : gives { base with h := 0xC0, l := 0x05, mem := [(0xC005, 0x12)] } [0x66]
    (fun _ t => t.h = 0x12 ∧ t.l = 0x05) = true := by decide

/-- R132: one bus write (0xC123, 0x77). -/
theorem test_ld_mHL_B : gives { base with h := 0xC1, l := 0x23, b := 0x77 } [0x70]
    (fun _ t => t.trace = [.read 0x0100 0x70, .write 0xC123 0x77] ∧ t.cycles = 8) = true := by decide

/-- R133. -/
theorem test_ld_A_d8 : gives base [0x3E, 0x45]
    (fun _ t => t.a = 0x45 ∧ t.pc = 0x0102) = true := by decide

/-- R134. -/
theorem test_ld_mHL_d8 : gives { base with h := 0xC0 } [0x36, 0x99]
    (fun _ t => t.byteAt 0xC000 = 0x99 ∧ t.cycles = 12) = true := by decide

/-- R135. -/
theorem test_ld_A_mBC : gives { base with b := 0x80, mem := [(0x8000, 0x11)] } [0x0A]
    (fun _ t => t.a = 0x11) = true := by decide

/-- R138. -/
theorem test_ld_mDE_A : gives { base with d := 0xC0, e := 0x11, a := 0x44 } [0x12]
    (fun _ t => t.byteAt 0xC011 = 0x44) = true := by decide

/-- R139: HL=0xFFFF reads 0xFFFF and leaves HL=0x0000. -/
theorem test_ld_A_mHLI_wraps : gives { base with h := 0xFF, l := 0xFF, mem := [(0xFFFF, 0x55)] } [0x2A]
    (fun _ t => t.a = 0x55 ∧ t.hl = 0x0000) = true := by decide

/-- R140. -/
theorem test_ld_A_mHLD : gives { base with h := 0xC0, l := 0x01, mem := [(0xC001, 0x66)] } [0x3A]
    (fun _ t => t.a = 0x66 ∧ t.hl = 0xC000) = true := by decide

/-- R141. -/
theorem test_ld_mHLI_A : gives { base with h := 0xC0, a := 0x01 } [0x22]
    (fun _ t => t.byteAt 0xC000 = 0x01 ∧ t.hl = 0xC001) = true := by decide

/-- R143. -/
theorem test_ld_A_mA16 : gives { base with mem := [(0xC234, 0x9C)] } [0xFA, 0x34, 0xC2]
    (fun _ t => t.a = 0x9C ∧ t.pc = 0x0103 ∧ t.cycles = 16) = true := by decide

/-- R144. -/
theorem test_ld_mA16_A : gives { base with a := 0x7E } [0xEA, 0x00, 0xC1]
    (fun _ t => t.byteAt 0xC100 = 0x7E) = true := by decide

/-- R145. -/
theorem test_ldh_A_mA8 : gives { base with mem := [(0xFF44, 0x90)] } [0xF0, 0x44]
    (fun _ t => t.a = 0x90 ∧ t.cycles = 12) = true := by decide

/-- R146. -/
theorem test_ldh_mA8_A : gives { base with a := 0x3C } [0xE0, 0x80]
    (fun _ t => t.byteAt 0xFF80 = 0x3C) = true := by decide

/-- R148. -/
theorem test_ld_mC_A : gives { base with c := 0x01, a := 0x41 } [0xE2]
    (fun _ t => t.byteAt 0xFF01 = 0x41 ∧ t.cycles = 8) = true := by decide

/-- R160. -/
theorem test_ld_BC_d16 : gives base [0x01, 0x34, 0x12]
    (fun _ t => t.b = 0x12 ∧ t.c = 0x34 ∧ t.cycles = 12) = true := by decide

/-- R161: lo(SP) first. -/
theorem test_ld_mA16_SP_order : gives { base with sp := 0xDFF0 } [0x08, 0x00, 0xC1]
    (fun _ t => t.trace.drop 3 = [.write 0xC100 0xF0, .write 0xC101 0xDF] ∧ t.cycles = 20) = true := by decide

/-- R161: addr = 0xFFFF. -/
theorem test_ld_mA16_SP_wraps : gives { base with sp := 0xDFF0 } [0x08, 0xFF, 0xFF]
    (fun _ t => t.byteAt 0xFFFF = 0xF0 ∧ t.byteAt 0x0000 = 0xDF) = true := by decide

/-- R162. -/
theorem test_ld_SP_HL : gives { base with h := 0xD0 } [0xF9]
    (fun _ t => t.sp = 0xD000) = true := by decide

/-- R163: SP=0x0001, e=0xFF: HL=0, H=1, C=1, Z=0. -/
theorem test_ld_HL_SPe_flags : gives { base with sp := 0x0001, fZ := true } [0xF8, 0xFF]
    (fun _ t => t.hl = 0x0000 ∧ t.packFlags = 0x30) = true := by decide

/-- R163: SP=0x0000, e=0xFF: HL=0xFFFF, H=0, C=0. -/
theorem test_ld_HL_SPe_no_carry : gives { base with sp := 0x0000 } [0xF8, 0xFF]
    (fun _ t => t.hl = 0xFFFF ∧ t.packFlags = 0x00) = true := by decide

/-- R170: BC=0x00FF becomes 0x0100. -/
theorem test_inc_BC : gives { base with b := 0x00, c := 0xFF } [0x03]
    (fun _ t => t.bc = 0x0100 ∧ t.cycles = 8) = true := by decide

/-- R171: 0x0000 becomes 0xFFFF. -/
theorem test_dec_BC_wraps_without_flags : gives base [0x0B]
    (fun _ t => t.bc = 0xFFFF ∧ t.packFlags = 0x00) = true := by decide

/-- R172: old=0xFF: Z=1, H=1, C unchanged. -/
theorem test_inc_B_wraps : gives { base with b := 0xFF, fC := true } [0x04]
    (fun _ t => t.b = 0x00 ∧ t.packFlags = 0xB0) = true := by decide

/-- R173: old=0x00: res=0xFF, Z=0, H=1, C unchanged. -/
theorem test_dec_B_borrows : gives base [0x05]
    (fun _ t => t.b = 0xFF ∧ t.packFlags = 0x60) = true := by decide

/-- R174. -/
theorem test_inc_mHL : gives { base with h := 0xC0, mem := [(0xC000, 0x4F)] } [0x34]
    (fun _ t => t.byteAt 0xC000 = 0x50 ∧ t.packFlags = 0x20) = true := by decide

/-- R175. -/
theorem test_dec_mHL : gives { base with h := 0xC0, mem := [(0xC000, 0x01)] } [0x35]
    (fun _ t => t.byteAt 0xC000 = 0x00 ∧ t.packFlags = 0xC0) = true := by decide

/-- R181: A=0xFF, s=0x01. -/
theorem test_add_wraps : gives { base with a := 0xFF } [0xC6, 0x01]
    (fun _ t => t.a = 0x00 ∧ t.packFlags = 0xB0) = true := by decide

/-- R182: A=0xFF, s=0xFF, fC=1: A=0xFF, Z=0 H=1 C=1. -/
theorem test_adc_with_carry : gives { base with a := 0xFF, b := 0xFF, fC := true } [0x88]
    (fun _ t => t.a = 0xFF ∧ t.packFlags = 0x30) = true := by decide

/-- R183: A=0x00, s=0x01. -/
theorem test_sub_borrows : gives { base with b := 0x01 } [0x90]
    (fun _ t => t.a = 0xFF ∧ t.packFlags = 0x70) = true := by decide

/-- R184: A=0x00, s=0xFF, fC=1: A=0x00, Z=1, H=1, C=1. -/
theorem test_sbc_with_borrow : gives { base with e := 0xFF, fC := true } [0x9B]
    (fun _ t => t.a = 0x00 ∧ t.packFlags = 0xF0) = true := by decide

/-- R185. -/
theorem test_and_sets_H : gives { base with a := 0x5A, l := 0x3F, fC := true } [0xA5]
    (fun _ t => t.a = 0x1A ∧ t.packFlags = 0x20) = true := by decide

/-- R186. -/
theorem test_xor_A : gives { base with a := 0x7B, fC := true } [0xAF]
    (fun _ t => t.a = 0x00 ∧ t.packFlags = 0x80) = true := by decide

/-- R187. -/
theorem test_or_mHL : gives { base with a := 0x50, h := 0xC0, fC := true, mem := [(0xC000, 0x05)] } [0xB6]
    (fun _ t => t.a = 0x55 ∧ t.packFlags = 0x00 ∧ t.cycles = 8) = true := by decide

/-- R188: A=0x3C against 0x40: Z=0 N=1 H=0 C=1. -/
theorem test_cp_keeps_A : gives { base with a := 0x3C } [0xFE, 0x40]
    (fun _ t => t.a = 0x3C ∧ t.packFlags = 0x50) = true := by decide

/-- R200. -/
theorem test_add_HL_BC : gives { base with h := 0x8A, l := 0x23, b := 0x06, c := 0x05, fZ := true } [0x09]
    (fun _ t => t.hl = 0x9028 ∧ t.packFlags = 0xA0) = true := by decide

/-- R200: HL=0x8000: 0x0000, H=0, C=1, Z unchanged. -/
theorem test_add_HL_HL : gives { base with h := 0x80 } [0x29]
    (fun _ t => t.hl = 0x0000 ∧ t.packFlags = 0x10) = true := by decide

/-- R201: SP=0x0010, e=0xF0: SP=0x0000, H=0, C=1. -/
theorem test_add_SP_e : gives { base with sp := 0x0010, fZ := true } [0xE8, 0xF0]
    (fun _ t => t.sp = 0x0000 ∧ t.packFlags = 0x10 ∧ t.cycles = 16) = true := by decide

/-- R211: e=0xFE. -/
theorem test_jr_to_itself : gives base [0x18, 0xFE]
    (fun _ t => t.pc = 0x0100 ∧ t.cycles = 12) = true := by decide

/-- R211: at 0xFFFE, 18 05 gives PC = 0x0005. -/
theorem test_jr_wraps : gives { base with pc := 0xFFFE } [0x18, 0x05]
    (fun _ t => t.pc = 0x0005) = true := by decide

/-- R212: at 0x0200, 20 FC: PC = 0x01FE, cost 12. -/
theorem test_jr_NZ_taken : gives { base with pc := 0x0200 } [0x20, 0xFC]
    (fun _ t => t.pc = 0x01FE ∧ t.cycles = 12) = true := by decide

/-- R212: with fZ=1: PC = 0x0202, cost 8. -/
theorem test_jr_NZ_not_taken : gives { base with pc := 0x0200, fZ := true } [0x20, 0xFC]
    (fun _ t => t.pc = 0x0202 ∧ t.cycles = 8) = true := by decide

/-- R214. -/
theorem test_jp_C_taken : gives { base with fC := true } [0xDA, 0x00, 0x20]
    (fun _ t => t.pc = 0x2000 ∧ t.cycles = 16) = true := by decide

/-- R214. -/
theorem test_jp_C_not_taken : gives base [0xDA, 0x00, 0x20]
    (fun _ t => t.pc = 0x0103 ∧ t.cycles = 12) = true := by decide

/-- R215. -/
theorem test_jp_mHL_reads_no_memory : gives { base with h := 0x40 } [0xE9]
    (fun _ t => t.pc = 0x4000 ∧ t.trace.length = 1) = true := by decide

/-- R216: at 0x0150 with SP=0xFFFE. -/
theorem test_call : gives { base with pc := 0x0150, sp := 0xFFFE } [0xCD, 0x00, 0x20]
    (fun _ t => t.trace.drop 3 = [.write 0xFFFD 0x01, .write 0xFFFC 0x53] ∧ t.pc = 0x2000 ∧ t.sp = 0xFFFC) = true := by decide

/-- R217: no stack access, cost 12. -/
theorem test_call_Z_not_taken : gives { base with pc := 0x0300 } [0xCC, 0x34, 0x12]
    (fun _ t => t.pc = 0x0303 ∧ t.sp = 0xD000 ∧ t.trace.length = 3 ∧ t.cycles = 12) = true := by decide

/-- R218. -/
theorem test_ret : gives { base with sp := 0xFFFC, mem := [(0xFFFC, 0x53), (0xFFFD, 0x01)] } [0xC9]
    (fun _ t => t.pc = 0x0153 ∧ t.sp = 0xFFFE ∧ t.cycles = 16) = true := by decide

/-- R219: cost 20. -/
theorem test_ret_C_taken : gives
    { base with fC := true, sp := 0xFFFC, mem := [(0xFFFC, 0x53), (0xFFFD, 0x01)] } [0xD8]
    (fun _ t => t.pc = 0x0153 ∧ t.cycles = 20) = true := by decide

/-- R221. -/
theorem test_reti_sets_IME : gives { base with sp := 0xFFFC, mem := [(0xFFFC, 0x53), (0xFFFD, 0x01)] } [0xD9]
    (fun _ t => t.pc = 0x0153 ∧ t.ime = true) = true := by decide

/-- R222: at 0x1234 with SP=0xD000. -/
theorem test_rst_28 : gives { base with pc := 0x1234 } [0xEF]
    (fun _ t => t.byteAt 0xCFFF = 0x12 ∧ t.byteAt 0xCFFE = 0x35 ∧ t.pc = 0x0028) = true := by decide

/-- R232: SP=0x0001: writes at 0x0000 then 0xFFFF. -/
theorem test_push_wraps : gives { base with sp := 0x0001, b := 0x12, c := 0x34 } [0xC5]
    (fun _ t => t.trace.drop 1 = [.write 0x0000 0x12, .write 0xFFFF 0x34] ∧ t.sp = 0xFFFF) = true := by decide

/-- R234: low byte 0xA0. -/
theorem test_push_AF : gives { base with a := 0x12, fZ := true, nh := .direct false true } [0xF5]
    (fun _ t => t.byteAt 0xCFFF = 0x12 ∧ t.byteAt 0xCFFE = 0xA0) = true := by decide

/-- R233. -/
theorem test_pop_DE : gives { base with sp := 0xCFFE, mem := [(0xCFFE, 0x34), (0xCFFF, 0x12)] } [0xD1]
    (fun _ t => t.de = 0x1234 ∧ t.sp = 0xD000) = true := by decide

/-- R235. -/
theorem test_pop_AF_loses_low_nibble : gives
    { base with sp := 0xCFFE, mem := [(0xCFFE, 0xFF), (0xCFFF, 0x9A)] } [0xF1]
    (fun _ t => t.a = 0x9A ∧ t.packFlags = 0xF0) = true := by decide

/-- R243. -/
theorem test_rlc_B : gives { base with b := 0x85 } [0xCB, 0x00]
    (fun _ t => t.b = 0x0B ∧ t.packFlags = 0x10 ∧ t.cycles = 8) = true := by decide

/-- R244. -/
theorem test_rrc_C : gives { base with c := 0x01 } [0xCB, 0x09]
    (fun _ t => t.c = 0x80 ∧ t.packFlags = 0x10) = true := by decide

/-- R245. -/
theorem test_rl_L : gives { base with l := 0x11, fC := true } [0xCB, 0x15]
    (fun _ t => t.l = 0x23 ∧ t.packFlags = 0x00) = true := by decide

/-- R246. -/
theorem test_rr_A : gives { base with a := 0x8A, fC := true } [0xCB, 0x1F]
    (fun _ t => t.a = 0xC5 ∧ t.packFlags = 0x00) = true := by decide

/-- R247. -/
theorem test_sla_D : gives { base with d := 0x80 } [0xCB, 0x22]
    (fun _ t => t.d = 0x00 ∧ t.packFlags = 0x90) = true := by decide

/-- R248. -/
theorem test_sra_E : gives { base with e := 0x8A } [0xCB, 0x2B]
    (fun _ t => t.e = 0xC5 ∧ t.packFlags = 0x00) = true := by decide

/-- R249. -/
theorem test_swap_A : gives { base with a := 0xF1, fC := true } [0xCB, 0x37]
    (fun _ t => t.a = 0x1F ∧ t.packFlags = 0x00) = true := by decide

/-- R250. -/
theorem test_srl_H : gives { base with h := 0xFF } [0xCB, 0x3C]
    (fun _ t => t.h = 0x7F ∧ t.packFlags = 0x10) = true := by decide

/-- R251: Z=1 for A=0x80. -/
theorem test_bit_0_A : gives { base with a := 0x80, fC := true } [0xCB, 0x47]
    (fun _ t => t.a = 0x80 ∧ t.packFlags = 0xB0) = true := by decide

/-- R251: one read, no write, cost 12. -/
theorem test_bit_7_mHL_reads_once : gives { base with h := 0xC0, mem := [(0xC000, 0x80)] } [0xCB, 0x7E]
    (fun _ t => t.trace.drop 2 = [.read 0xC000 0x80] ∧ t.packFlags = 0x20 ∧ t.cycles = 12) = true := by decide

/-- R252. -/
theorem test_res_0_mHL : gives { base with h := 0xC0, mem := [(0xC000, 0xFF)] } [0xCB, 0x86]
    (fun _ t => t.trace.drop 2 = [.read 0xC000 0xFF, .write 0xC000 0xFE] ∧ t.cycles = 16) = true := by decide

/-- R253. -/
theorem test_set_1_E : gives base [0xCB, 0xCB]
    (fun _ t => t.e = 0x02) = true := by decide

/-- R260. -/
theorem test_rlca_clears_Z : gives { base with a := 0x85, fZ := true } [0x07]
    (fun _ t => t.a = 0x0B ∧ t.packFlags = 0x10) = true := by decide

/-- R261. -/
theorem test_rrca : gives { base with a := 0x3B } [0x0F]
    (fun _ t => t.a = 0x9D ∧ t.packFlags = 0x10) = true := by decide

/-- R262. -/
theorem test_rla : gives { base with a := 0x95, fC := true } [0x17]
    (fun _ t => t.a = 0x2B ∧ t.packFlags = 0x10) = true := by decide

/-- R263. -/
theorem test_rra : gives { base with a := 0x81 } [0x1F]
    (fun _ t => t.a = 0x40 ∧ t.packFlags = 0x10) = true := by decide

/-- R264: A=0x9A: A=0x00, Z=1, C=1. -/
theorem test_daa_after_addition : gives { base with a := 0x9A } [0x27]
    (fun _ t => t.a = 0x00 ∧ t.packFlags = 0x90) = true := by decide

/-- R264: A=0x00, N=1, H=1, C=1: A=0x9A, C=1. -/
theorem test_daa_after_subtraction : gives { base with fC := true, nh := .direct true true } [0x27]
    (fun _ t => t.a = 0x9A ∧ t.packFlags = 0x50) = true := by decide

/-- R265. -/
theorem test_cpl : gives { base with a := 0x35 } [0x2F]
    (fun _ t => t.a = 0xCA ∧ t.packFlags = 0x60) = true := by decide

/-- R266. -/
theorem test_scf : gives { base with fZ := true, nh := .direct true true } [0x37]
    (fun _ t => t.packFlags = 0x90) = true := by decide

/-- R267. -/
theorem test_ccf : gives { base with fC := true, nh := .direct true true } [0x3F]
    (fun _ t => t.packFlags = 0x00) = true := by decide

/-- R268. -/
theorem test_di : gives { base with ime := true } [0xF3]
    (fun _ t => t.ime = false) = true := by decide

/-- R269. -/
theorem test_ei : gives base [0xFB]
    (fun _ t => t.ime = true) = true := by decide

/-- R270: at 0x0200: halted=1, PC=0x0201. -/
theorem test_halt : gives { base with pc := 0x0200 } [0x76]
    (fun _ t => t.halted = true ∧ t.pc = 0x0201) = true := by decide

/-- R271. -/
theorem test_halted_step : gives { base with halted := true } [0x3C]
    (fun s t => t = { s with cycles := 4 }) = true := by decide

/-- R272. -/
theorem test_stop_is_one_byte : gives base [0x10, 0x3C]
    (fun _ t => t.pc = 0x0101 ∧ t.cycles = 4) = true := by decide

/-- R273. -/
theorem test_nop : gives base [0x00]
    (fun _ t => t.pc = 0x0101 ∧ t.cycles = 4) = true := by decide

/-- R274. -/
theorem test_invalid_DD : gives base [0xDD, 0x3C]
    (fun _ t => t.trace = [.read 0x0100 0xDD, .report .invalidOpcode 0x00DD] ∧ t.pc = 0x0101) = true := by decide

/-- R76. -/
theorem test_unmapped_opcode_is_rst_38 : gives { base with pc := 0xA000, busMap := [unmappedRange] } []
    (fun _ t => t.pc = 0x0038 ∧ t.byteAt 0xCFFE = 0x01 ∧ t.trace.take 1 = [.report .invalidRead 0xA000]) = true := by decide

/-- R77. -/
theorem test_unmapped_store_is_dropped : gives { base with h := 0xA0, b := 0x55, busMap := [unmappedRange] } [0x70]
    (fun _ t => t.byteAt 0xA000 = 0x00 ∧ t.trace.drop 1 = [.report .invalidWrite 0xA000]) = true := by decide

/-- R75. -/
theorem test_read_only_store_is_ignored : gives
    { base with h := 0x40, b := 0x55, busMap := [{ first := 0x4000, last := 0x7FFF, kind := .readOnly }] } [0x70]
    (fun _ t => t.byteAt 0x4000 = 0x00 ∧ t.trace.drop 1 = [.write 0x4000 0x55]) = true := by decide

/-- R288, R292: lines 1 and 2 pending and enabled, line 0 not enabled; NOP at 0x0048. -/
theorem test_interrupt_priority : gives { base with ime := true, irqPending := 0b00111, irqEnabled := 0b11110 } [0x3C]
    (fun _ t => t.pc = 0x0049 ∧ t.irqPending = 0b00101 ∧ t.ime = false ∧ t.byteAt 0xCFFF = 0x01 ∧ t.byteAt 0xCFFE = 0x00) = true := by decide

/-- R17, R222, R292: the vectors are the parameters'. -/
theorem test_vectors_are_parameters :
    gives { base with params := { defaultParams with rstVector := defaultParams.rstVector.set 5 0x1234 } } [0xEF]
      (fun _ t => t.pc = 0x1234) = true ∧
    (enterInterrupt 4 { base with params := { defaultParams with irqVector := defaultParams.irqVector.set 4 0xABCD } }).pc =
      0xABCD := by decide

/-- R17, R333 to R335: the costs are the parameters'. -/
theorem test_costs_are_parameters :
    gives { base with params := { defaultParams with cycles := [(0x20, 1)], takenExtra := [(0x20, 30)] } } [0x20, 0x00]
      (fun _ t => t.cycles = 31) = true ∧
    gives { base with params := { defaultParams with cyclesExtended := [(0x46, 5)] } } [0xCB, 0x46]
      (fun _ t => t.cycles = 5) = true := by decide

/-- R16, R17: the count holds 255; a cost past it stops nothing (the count itself is then free, log 22). -/
theorem test_count_has_eight_bits :
    gives { base with params := { defaultParams with cycles := [(0x3C, 255)] } } [0x3C] (fun _ t => t.cycles = 255) = true ∧
    gives { base with params := { defaultParams with cycles := [(0x3C, 300)] } } [0x3C]
      (fun _ t => t.a = 0x01 ∧ t.pc = 0x0101) = true := by decide

/-- R17, R287: a source raises its own line. -/
theorem test_source_raises_its_line : (EnvMove.apply (.raise .timer) base).irqPending = 0b00100 := by decide

/-- R293: the instruction after HALT runs in the same step. -/
theorem test_wake_without_entry : gives
    { base with halted := true, irqPending := 0b10000, irqEnabled := 0b10000 } [0x3C]
    (fun _ t => t.a = 0x01 ∧ t.halted = false ∧ t.irqPending = 0b10000) = true := by decide

/-- R290. -/
theorem test_masked_request_is_ignored : gives { base with irqPending := 0b00001, irqEnabled := 0b00001 } [0x3C]
    (fun _ t => t.a = 0x01 ∧ t.irqPending = 0b00001) = true := by decide

/-- R47, R45: under the deferred representation INC A stores the operands, and H reads as their carry. -/
theorem test_deferred_inc : gives { lazyBase with a := 0x0F } [0x3C]
    (fun _ t => t.nh = .lazyNH { nhA := 0x0F, nhB := 0x01, nhCin := false, nhRes := 0x10, nhSub := false } ∧
      t.packFlags = 0x20) = true := by decide

/-- R304: a write of 0 to halted is the external unhalt condition. -/
theorem test_debug_unhalt : (dbgWrite .halted 0xFFFE { base with halted := true }).halted = false := by decide

/-- R304: an 8-bit field keeps the low byte. -/
theorem test_debug_truncates : dbgRead .a (dbgWrite .a 0x12FF base) = 0x00FF := by decide

/-- R56, R320: the fixed fields of the reset state. -/
theorem test_reset_fixed_fields :
    State.reset.pc = 0x0100 ∧ State.reset.ime = false ∧ State.reset.halted = false := by decide

/-! ## Witnesses

For each statement with hypotheses, a state and operands that meet them all. -/

theorem base_inv : base.Inv := ⟨Memory.wf_nil, trivial⟩

theorem base_deviceFree : base.deviceFree := fun _ h => nomatch h

/-- Obligations.DecodeInvertsEncode, Obligations.CostIsTheTables. -/
theorem witness_complete_instruction : Instr.wf (.ld_HL_d16 0x1234) = true ∧ Instr.wf .set_7_A = true := by decide

/-- Obligations.EncodeInvertsDecode. -/
theorem witness_decodes : decode [0x3E, 0x45, 0x00] = .ok (.ld_A_d8 0x45, [0x00]) := by rfl

/-- Obligations.DeferredFlagsRead, with the invariant. -/
theorem witness_deferred : ∃ d, lazyBase.nh = .lazyNH d ∧ d.wf :=
  ⟨_, rfl, canonical_wf false false⟩

/-- Obligations.DeferredFieldsStored: each clause's instruction answers a next state. -/
theorem witness_deferred_stored_computed :
    (∃ t, exec (Group.alu .sbc (.reg .b)) lazyBase = .next t) ∧ (∃ t, exec (Group.alu .add .atHL) lazyBase = .next t) ∧
    (∃ t, exec (Group.aluImm .cp 0x80) lazyBase = .next t) ∧ (∃ t, exec (Group.inc .atHL) lazyBase = .next t) ∧
    (∃ t, exec (Group.dec (.reg .a)) lazyBase = .next t) ∧ (∃ t, exec (Group.addHL .sp) lazyBase = .next t) ∧
    (∃ t, exec (.add_SP_e 0xFF) lazyBase = .next t) ∧ (∃ t, exec (.ld_HL_SPe 0x80) lazyBase = .next t) :=
  ⟨⟨_, rfl⟩, ⟨_, rfl⟩, ⟨_, rfl⟩, ⟨_, rfl⟩, ⟨_, rfl⟩, ⟨_, rfl⟩, ⟨_, rfl⟩, ⟨_, rfl⟩⟩

theorem witness_deferred_stored_canonical :
    (∃ t, exec (Group.rotate .swap .atHL) lazyBase = .next t) ∧ (∃ t, exec (Group.bit 7 .atHL) lazyBase = .next t) ∧
    (∃ t, exec .rra lazyBase = .next t) ∧ (∃ t, exec .ccf lazyBase = .next t) ∧ (∃ t, exec .daa lazyBase = .next t) ∧
    (∃ t, exec .cpl lazyBase = .next t) ∧ (∃ t, exec .pop_AF lazyBase = .next t) :=
  ⟨⟨_, rfl⟩, ⟨_, rfl⟩, ⟨_, rfl⟩, ⟨_, rfl⟩, ⟨_, rfl⟩, ⟨_, rfl⟩, ⟨_, rfl⟩⟩

/-- Obligations.OnlyFlagWritersWriteFlags, and the last clause of Obligations.DeferredFieldsStored. -/
theorem witness_no_flag_writer :
    (∃ t, exec .nop lazyBase = .next t) ∧ Instr.wf .nop = true ∧ ¬ FlagWriter .nop ∧ Instr.nop ≠ .cbPrefix := by
  refine ⟨⟨_, rfl⟩, rfl, ?_, by decide⟩
  rintro (⟨op, o, h⟩ | ⟨op, d8, h⟩ | ⟨o, h⟩ | ⟨o, h⟩ | ⟨p, h⟩ | ⟨e, h⟩ | ⟨e, h⟩ | ⟨op, o, h⟩ | ⟨b, o, h⟩ | h)
  · cases op <;> rcases o with (_ | _ | _ | _ | _ | _ | _) | _ <;> cases h
  · cases op <;> cases h
  · rcases o with (_ | _ | _ | _ | _ | _ | _) | _ <;> cases h
  · rcases o with (_ | _ | _ | _ | _ | _ | _) | _ <;> cases h
  · cases p <;> cases h
  · cases h
  · cases h
  · cases op <;> rcases o with (_ | _ | _ | _ | _ | _ | _) | _ <;> cases h
  · rw [bit_eq_decodeExtended] at h
    exact absurd ((congrArg encode h).trans (encode_decodeExtended _)) (by intro h'; cases h')
  · revert h; decide

/-- The premise on memory of the storing statements. -/
theorem witness_memory_wf : Memory.wf base.mem ∧ Memory.wf [(0x0000, 0x01), (0xFFFF, 0xFF)] := by decide

/-- A state with unmapped, read-only and device addresses. -/
def mixedBus : State := { base with busMap := [unmappedRange, { first := 0x0000, last := 0x7FFF, kind := .readOnly },
  { first := 0xFF00, last := 0xFF7F, kind := .device }] }

/-- The premise on the bus of the statements about accesses, at the boundaries of the kinds of address. -/
theorem witness_no_device : mixedBus.noDevice [0x0000, 0x7FFF, 0x8000, 0xA000, 0xFEFF, 0xFF80, 0xFFFF] ∧
    mixedBus.kindAt 0xFF00 = .device ∧ mixedBus.kindAt 0xFF7F = .device := by
  refine ⟨fun a ha => ?_, by decide, by decide⟩
  simp only [List.mem_cons, List.not_mem_nil, or_false] at ha
  rcases ha with rfl | rfl | rfl | rfl | rfl | rfl | rfl <;> decide

/-- The premises on the parameters: the recommended cost tables and vectors. -/
theorem witness_recommended : RecommendedCosts base.params ∧ base.params.rstVector = defaultParams.rstVector :=
  ⟨fun _ => ⟨rfl, rfl, rfl⟩, rfl⟩

/-- Obligations.CallsPushReturnAddress, Obligations.ReturnsPopProgramCounter: a condition that holds and one that does
not. -/
theorem witness_conditions : base.cond .nz = true ∧ base.cond .nc = true ∧ base.cond .z = false ∧ base.cond .c = false := by
  decide

/-- Obligations.PopPair. -/
theorem witness_stack_pairs : StackPair.bc ≠ .af ∧ StackPair.de ≠ .hl := by decide

/-- Obligations.PushesThenPopsRestore, at the longest list of pairs. -/
theorem witness_pushes : base.Inv ∧ 2 * (List.replicate 32768 StackPair.af).length ≤ 65536 ∧
    ∀ k, 1 ≤ k → k ≤ 2 * (List.replicate 32768 StackPair.af).length → base.isPlain (base.sp - BitVec.ofNat 16 k) :=
  ⟨base_inv, by rw [List.length_replicate], fun _ _ _ => rfl⟩

/-- Obligations.BitWrites: every bit of a byte. -/
theorem witness_bits : (0 : Nat) < 8 ∧ (7 : Nat) < 8 := by decide

/-- Obligations.DecimalArithmetic, at both ends of the range. -/
theorem witness_decimal : (0 : Nat) < 100 ∧ (99 : Nat) < 100 ∧
    { base with a := 0x99, b := 0x00 }.a = bcd 99 ∧ { base with a := 0x99, b := 0x00 }.b = bcd 0 := by decide

/-- Obligations.OnlyModeInstructionsChangeModes. -/
theorem witness_modes_change : (∃ t, exec .ei base = .next t ∧ t.ime ≠ base.ime) ∧
    ∃ t, exec .halt base = .next t ∧ t.halted ≠ base.halted :=
  ⟨⟨_, rfl, by decide⟩, ⟨_, rfl, by decide⟩⟩

/-- A state with an unmapped range and PC at its first address. -/
def unmappedState : State := { base with pc := 0xA000, busMap := [unmappedRange] }

/-- Obligations.UnmappedAccesses, at both ends of the range. -/
theorem witness_unmapped : unmappedState.kindAt 0xA000 = .unmapped ∧ unmappedState.kindAt 0xBFFF = .unmapped ∧
    (serviceInterrupt unmappedState.beginStep).halted = false ∧
    (serviceInterrupt unmappedState.beginStep).kindAt (serviceInterrupt unmappedState.beginStep).pc = .unmapped := by
  decide

/-- The ranges around the unmapped one. -/
theorem test_map_boundaries : unmappedState.kindAt 0x9FFF = .plain ∧ unmappedState.kindAt 0xC000 = .plain := by decide

/-- Obligations.ReadAfterWrite, at both ends of the address space. -/
theorem witness_plain : base.Inv ∧ base.isPlain 0x0000 ∧ base.isPlain 0xFFFF ∧ (0x0000 : Word) ≠ 0xFFFF ∧
    base.isReadable 0xFFFF := ⟨base_inv, rfl, rfl, by decide, .inl rfl⟩

/-- Obligations.StepRunsEncodedInstruction, with the instruction's bytes on both sides of the wrap. -/
theorem witness_step_runs :
    Instr.wf (.ld_A_d8 0x45) = true ∧
    (serviceInterrupt ({ base with pc := 0xFFFF, mem := [(0x0000, 0x45), (0xFFFF, 0x3E)] } : State).beginStep).halted =
      false ∧
    bytesAt (encode (.ld_A_d8 0x45)) 0xFFFF
      (serviceInterrupt ({ base with pc := 0xFFFF, mem := [(0x0000, 0x45), (0xFFFF, 0x3E)] } : State).beginStep) :=
  ⟨rfl, rfl, .inl rfl, rfl, .inl rfl, rfl, trivial⟩

/-- Obligations.HaltedStepIdles, with a request pending but not enabled. -/
theorem witness_halted : ({ base with halted := true, irqPending := 0b11111 } : State).halted = true ∧
    ({ base with halted := true, irqPending := 0b11111 } : State).requests = 0 := by decide

/-- Obligations.BatchIsStepsInSequence, Obligations.StepKeepsInvariant. -/
theorem witness_step : base.Inv ∧ ∃ t, step base = .next t := ⟨base_inv, _, rfl⟩

/-- Obligations.StepKeepsInvariant, with the deferred representation. -/
theorem witness_deferred_step : lazyBase.Inv ∧ ∃ t, step lazyBase = .next t :=
  ⟨⟨Memory.wf_nil, canonical_wf false false⟩, _, rfl⟩

/-- Obligations.CheckWithoutEntry: the three clauses. -/
theorem witness_check : base.requests = 0 ∧ (base.ime = false ∧ base.halted = false) ∧
    ({ base with halted := true, irqPending := 0b10000, irqEnabled := 0b10000 } : State).requests ≠ 0 ∧
    ({ base with halted := true, irqPending := 0b10000, irqEnabled := 0b10000 } : State).ime = false := by decide

/-- Interrupts enabled, every line pending and the lines of the mask enabled. -/
def requesting (enabled : BitVec 5) : State := { base with ime := true, irqPending := 0b11111, irqEnabled := enabled }

/-- Obligations.InterruptEntry, for the first and the last line. -/
theorem witness_winners : (requesting 0b11111).ime = true ∧ IsWinner 0 (requesting 0b11111) ∧
    IsWinner 4 (requesting 0b10000) ∧ (3 : Fin 5) ≠ 4 := by
  refine ⟨rfl, ⟨by decide, fun m h => absurd h (by omega)⟩, ⟨by decide, by decide⟩, by decide⟩

/-- Obligations.ReturnUndoesCallAndEntry, with the stack across the wrap. -/
theorem witness_plain_stack : Memory.wf ({ requesting 0b10000 with sp := 0x0001 } : State).mem ∧
    ({ requesting 0b10000 with sp := 0x0001 } : State).isPlain 0x0000 ∧
    ({ requesting 0b10000 with sp := 0x0001 } : State).isPlain 0xFFFF ∧
    IsWinner 4 ({ requesting 0b10000 with sp := 0x0001 } : State) :=
  ⟨by decide, rfl, rfl, by decide, by decide⟩

theorem witness_stack_is_no_device :
    (requesting 0b11111).noDevice [(requesting 0b11111).sp - 1, (requesting 0b11111).sp - 2] ∧
    Memory.wf (requesting 0b11111).mem ∧ (requesting 0b11111).params.irqVector = defaultParams.irqVector :=
  ⟨fun _ _ h => (nomatch h), by decide, rfl⟩

/-- Obligations.OneInterruptPerCheck, Obligations.RequestsClearedOnlyByEntry. -/
theorem witness_device_free : (requesting 0b11111).deviceFree ∧ ¬ IsWinner 1 (requesting 0b11111) :=
  ⟨fun _ h => (nomatch h), fun h => absurd (h.2 0 (by decide)) (by decide)⟩

/-- Obligations.DebugPortReadsBack. -/
theorem witness_fields : DbgField.fN ≠ .fH := by decide

/-- Obligations.RunKeepsInvariant: a run with a step and a move of the environment. -/
theorem witness_run : base.Inv ∧ ∃ t, runHappenings [.env (.driveRequests 0b00001), .step] base = .next t :=
  ⟨base_inv, _, rfl⟩

end Sys2Proof.Tests
end

section
/-! PROOFS. The parameters (rule R17): nothing writes them, and the recommended ones have the values the rule lists. -/

namespace Sys2Proof.Machine

/-! ## The parameters through fetching, the debug port and the instructions -/

@[simp] theorem fetch8_params (s : State) : (fetch8 s).2.params = s.params := by simp [fetch8]

@[simp] theorem fetchInstruction_params (s : State) : (fetchInstruction s).2.params = s.params := by
  obtain ⟨_, _, _, _, _, _, _, h⟩ := fetchInstruction_snd s
  rw [h]

@[simp] theorem prefixed_params (s : State) : (prefixed s).params = s.params := by simp [prefixed]

@[simp] theorem dbgWrite_params (f : DbgField) (v : Word) (s : State) : (dbgWrite f v s).params = s.params := by
  cases f <;> rfl

/-- Every instruction is an operation that keeps the parameters, followed by a charge; the families whose operand may be
(HL) have one operation for a register and one for memory. -/
theorem exec_keeps_params (i : Instr) (s : State) : ∃ t, exec i s = .next t ∧ t.params = s.params := by
  induction i using Instr.byFamily with
  | inc o => cases o <;> simp
  | dec o => cases o <;> simp
  | ldImm o d8 => cases o <;> simp
  | alu op o => cases o <;> simp
  | _ => simp

/-- R298: the check and the fetch keep the parameters, and so does what follows them, the halted step's charge or one
instruction. -/
theorem step_keeps_params (s : State) : ∃ t, step s = .next t ∧ t.params = s.params := by
  rcases step_cases s with ⟨-, hstep⟩ | ⟨-, i, -, -, hstep⟩
  · exact ⟨_, hstep, by simp⟩
  · obtain ⟨t, hexec, hparams⟩ := exec_keeps_params i (fetchInstruction (serviceInterrupt s.beginStep)).2
    exact ⟨t, hstep.trans hexec, by simpa using hparams⟩

/-- R306: the parameters are not among the fields the environment may change between steps. -/
theorem envMove_keeps_params (mv : EnvMove) (s : State) : (mv.apply s).params = s.params := by
  cases mv with
  | debug f v => exact dbgWrite_params f v s
  | _ => rfl

/-- Settles O59: each of the four kinds of act keeps the parameters. -/
theorem parametersAreFixed : Obligations.ParametersAreFixed :=
  ⟨exec_keeps_params, serviceInterrupt_params, step_keeps_params, envMove_keeps_params⟩

/-! ## The recommended values -/

/-- R286: the vectors of the five lines, 8 apart from 0x40. -/
theorem entryAddress_defaultParams (n : Fin 5) : entryAddress defaultParams n = BitVec.ofNat 16 (0x40 + 8 * n.val) := by
  revert n
  decide

/-- R222: the targets of the eight restarts, 8 apart from 0. -/
theorem restartAddress_defaultParams (y : Fin 8) : restartAddress defaultParams y = BitVec.ofNat 16 (8 * y.val) := by
  revert y
  decide

/-- R333 to R335: an opcode with no entry of its own costs what the recommended table says, and the recommended parameters
list no entry. -/
theorem recommendedCosts_defaultParams : RecommendedCosts defaultParams := fun _ => ⟨rfl, rfl, rfl⟩

/-- Settles O60: the addresses, the costs, and the values that the recommended parameters list themselves. -/
theorem recommendedParameters : Obligations.RecommendedParameters :=
  ⟨entryAddress_defaultParams, restartAddress_defaultParams, rfl, rfl, rfl, rfl, rfl, recommendedCosts_defaultParams, rfl⟩

end Sys2Proof.Machine
end

section
/-! PROOFS. What an instruction, an interrupt check and a step leave: the invariant (R44), the flags (R37, R38), and IME
and halted (R50, R51). -/

namespace Sys2Proof.Machine

/-! ## Two frames

Both are definitions over projections of the states, so that a change of another field is invisible to them: a proof
about the state before such a change is one about the state after it. -/

/-- No flag and no mode is written, and memory stays in canonical form. -/
def Quiet (s t : State) : Prop :=
  SameFlags s t ∧ SameModes s t ∧ (Memory.wf s.mem → Memory.wf t.mem)

/-- No mode is written, and both halves of the invariant are kept. -/
def Tame (s t : State) : Prop :=
  SameModes s t ∧ (Memory.wf s.mem → Memory.wf t.mem) ∧ (s.nh.wf → t.nh.wf)

theorem Quiet.refl (s : State) : Quiet s s := ⟨⟨rfl, rfl, rfl⟩, ⟨rfl, rfl⟩, id⟩

theorem Quiet.trans {s t u : State} (h : Quiet s t) (h' : Quiet t u) : Quiet s u := by
  obtain ⟨⟨z, nh, c⟩, ⟨ime, halted⟩, mem⟩ := h
  obtain ⟨⟨z', nh', c'⟩, ⟨ime', halted'⟩, mem'⟩ := h'
  exact ⟨⟨z'.trans z, nh'.trans nh, c'.trans c⟩, ⟨ime'.trans ime, halted'.trans halted⟩, mem' ∘ mem⟩

/-! A register written after an access. -/

theorem Quiet.setA {s t : State} (h : Quiet s t) (v : Byte) : Quiet s { t with a := v } := h
theorem Quiet.setPC {s t : State} (h : Quiet s t) (v : Word) : Quiet s { t with pc := v } := h
theorem Quiet.setHL {s t : State} (h : Quiet s t) (v : Word) : Quiet s (t.setHL v) := h

/-- What a conditional transfer leaves, taken or not. -/
theorem Quiet.ite {s t : State} (taken : Bool) (h : Quiet s t) : Quiet s (if taken then t else s) := by
  cases taken
  · exact Quiet.refl s
  · exact h

theorem Quiet.tame {s t : State} (h : Quiet s t) : Tame s t := by
  obtain ⟨⟨-, nh, -⟩, modes, mem⟩ := h
  exact ⟨modes, mem, fun hnh => by rwa [nh]⟩

theorem Tame.trans {s t u : State} (h : Tame s t) (h' : Tame t u) : Tame s u := by
  obtain ⟨⟨ime, halted⟩, mem, nh⟩ := h
  obtain ⟨⟨ime', halted'⟩, mem', nh'⟩ := h'
  exact ⟨⟨ime'.trans ime, halted'.trans halted⟩, mem' ∘ mem, nh' ∘ nh⟩

/-! ## The shared operations -/

theorem memRead_quiet (a : Word) (s : State) : Quiet s (memRead a s).2 :=
  ⟨⟨memRead_fZ a s, memRead_nh a s, memRead_fC a s⟩, ⟨memRead_ime a s, memRead_halted a s⟩, memRead_wf a⟩

theorem memWrite_quiet (a : Word) (v : Byte) (s : State) : Quiet s (memWrite a v s) :=
  ⟨⟨memWrite_fZ a v s, memWrite_nh a v s, memWrite_fC a v s⟩, ⟨memWrite_ime a v s, memWrite_halted a v s⟩,
    memWrite_wf a v⟩

theorem push16_quiet (v : Word) (s : State) : Quiet s (push16 v s) :=
  ⟨⟨push16_fZ v s, push16_nh v s, push16_fC v s⟩, ⟨push16_ime v s, push16_halted v s⟩, push16_wf v⟩

theorem pop16_quiet (s : State) : Quiet s (pop16 s).2 :=
  ⟨⟨pop16_fZ s, pop16_nh s, pop16_fC s⟩, ⟨pop16_ime s, pop16_halted s⟩, pop16_wf⟩

theorem setReg_quiet (r : Reg8) (v : Byte) (s : State) : Quiet s (s.setReg r v) := by
  cases r <;> exact Quiet.refl s

theorem setPair_quiet (p : Pair) (v : Word) (s : State) : Quiet s (s.setPair p v) := by
  cases p <;> exact Quiet.refl s

theorem setStackPair_quiet {p : StackPair} (hp : p ≠ .af) (v : Word) (s : State) : Quiet s (s.setStackPair p v) := by
  cases p with
  | af => exact absurd rfl hp
  | bc | de | hl => exact Quiet.refl s

theorem readOperand_quiet (o : Operand8) (s : State) : Quiet s (s.readOperand o).2 := by
  cases o with
  | reg r => exact Quiet.refl s
  | atHL => exact memRead_quiet s.hl s

theorem writeOperand_quiet (o : Operand8) (v : Byte) (s : State) : Quiet s (s.writeOperand o v) := by
  cases o with
  | reg r => exact setReg_quiet r v s
  | atHL => exact memWrite_quiet s.hl v s

theorem fetch8_quiet (s : State) : Quiet s (fetch8 s).2 := memRead_quiet s.pc s

/-- R47: N and H written with a consistent row; Z, C and the registers do not matter here. -/
theorem write_tame {d : Deferred} (n h : Bool) (hd : d.wf) (s : State) : Tame s { s with nh := s.nh.write n h d } :=
  ⟨⟨rfl, rfl⟩, id, fun _ => NHFlags.write_wf n h hd⟩

theorem writeConst_tame (n h : Bool) (s : State) : Tame s { s with nh := s.nh.write n h (Deferred.canonical n h) } :=
  write_tame n h (canonical_wf n h) s

/-! ## The operations that write flags -/

theorem alu_tame (op : AluOp) (v : Byte) (s : State) : Tame s (alu op v s) := by
  cases op with
  | add => exact write_tame _ _ (ofAdd_wf s.a v false) s
  | adc => exact write_tame _ _ (ofAdd_wf s.a v s.fC) s
  | sub | cp => exact write_tame _ _ (ofSub_wf s.a v false) s
  | sbc => exact write_tame _ _ (ofSub_wf s.a v s.fC) s
  | and => exact writeConst_tame false true s
  | xor | or => exact writeConst_tame false false s

theorem setAF_tame (v : Word) (s : State) : Tame s (s.setStackPair .af v) :=
  writeConst_tame ((lo v).getLsbD 6) ((lo v).getLsbD 5) s

theorem incFlags_tame (old : Byte) (s : State) : Tame s (incFlags old s) :=
  write_tame _ _ (ofAdd_wf old 1 false) s

theorem decFlags_tame (old : Byte) (s : State) : Tame s (decFlags old s) :=
  write_tame _ _ (ofSub_wf old 1 false) s

theorem incReg_tame (r : Reg8) (s : State) : Tame s (incReg r s) :=
  (setReg_quiet r _ s).tame.trans (incFlags_tame _ _)

theorem decReg_tame (r : Reg8) (s : State) : Tame s (decReg r s) :=
  (setReg_quiet r _ s).tame.trans (decFlags_tame _ _)

theorem incMem_tame (s : State) : Tame s (incMem s) :=
  ((memRead_quiet s.hl s).trans (memWrite_quiet ..)).tame.trans (incFlags_tame _ _)

theorem decMem_tame (s : State) : Tame s (decMem s) :=
  ((memRead_quiet s.hl s).trans (memWrite_quiet ..)).tame.trans (decFlags_tame _ _)

theorem rotate_tame (op : RotOp) (o : Operand8) (s : State) : Tame s (rotate op o s) :=
  ((readOperand_quiet o s).trans (writeOperand_quiet ..)).tame.trans (writeConst_tame ..)

theorem testBit_tame (b : Fin 8) (o : Operand8) (s : State) : Tame s (testBit b o s) :=
  (readOperand_quiet o s).tame.trans (writeConst_tame ..)

theorem resetBit_quiet (b : Fin 8) (o : Operand8) (s : State) : Quiet s (resetBit b o s) :=
  (readOperand_quiet o s).trans (writeOperand_quiet ..)

theorem setBit_quiet (b : Fin 8) (o : Operand8) (s : State) : Quiet s (setBit b o s) :=
  (readOperand_quiet o s).trans (writeOperand_quiet ..)

theorem extended_tame (op2 : Byte) (s : State) : Tame s (extended op2 s) := by
  unfold extended
  dsimp only
  split
  · exact rotate_tame ..
  · exact testBit_tame ..
  · exact (resetBit_quiet ..).tame
  · exact (setBit_quiet ..).tame

theorem prefixed_tame (s : State) : Tame s (prefixed s) :=
  (fetch8_quiet s).tame.trans (extended_tame ..)

/-! ## The instructions that write flags (R38) -/

theorem FlagWriter.alu (op : AluOp) (o : Operand8) : FlagWriter (Group.alu op o) := .inl ⟨op, o, rfl⟩

theorem FlagWriter.aluImm (op : AluOp) (d8 : Byte) : FlagWriter (Group.aluImm op d8) := .inr (.inl ⟨op, d8, rfl⟩)

theorem FlagWriter.inc (o : Operand8) : FlagWriter (Group.inc o) := .inr (.inr (.inl ⟨o, rfl⟩))

theorem FlagWriter.dec (o : Operand8) : FlagWriter (Group.dec o) := .inr (.inr (.inr (.inl ⟨o, rfl⟩)))

theorem FlagWriter.addHL (p : Pair) : FlagWriter (Group.addHL p) := .inr (.inr (.inr (.inr (.inl ⟨p, rfl⟩))))

theorem FlagWriter.add_SP_e (e : Byte) : FlagWriter (.add_SP_e e) := .inr (.inr (.inr (.inr (.inr (.inl ⟨e, rfl⟩)))))

theorem FlagWriter.ld_HL_SPe (e : Byte) : FlagWriter (.ld_HL_SPe e) :=
  .inr (.inr (.inr (.inr (.inr (.inr (.inl ⟨e, rfl⟩))))))

theorem FlagWriter.rotate (op : RotOp) (o : Operand8) : FlagWriter (Group.rotate op o) :=
  .inr (.inr (.inr (.inr (.inr (.inr (.inr (.inl ⟨op, o, rfl⟩)))))))

theorem FlagWriter.bit (b : Fin 8) (o : Operand8) : FlagWriter (Group.bit b o) :=
  .inr (.inr (.inr (.inr (.inr (.inr (.inr (.inr (.inl ⟨b, o, rfl⟩))))))))

theorem FlagWriter.special {i : Instr} (hi : i ∈ [Instr.rlca, .rrca, .rla, .rra, .daa, .cpl, .scf, .ccf, .pop_AF]) :
    FlagWriter i := .inr (.inr (.inr (.inr (.inr (.inr (.inr (.inr (.inr hi))))))))

/-! ## Every instruction -/

/-- What an instruction leaves: memory in canonical form, the deferred fields consistent, and, unless it is one of those
that write them (R38, R50, R51), the flags, IME and halted. -/
structure ExecFrame (i : Instr) (s t : State) : Prop where
  canonical : Memory.wf s.mem → Memory.wf t.mem
  consistent : s.nh.wf → t.nh.wf
  flags : ¬ FlagWriter i → i ≠ .cbPrefix → SameFlags s t
  ime : t.ime ≠ s.ime → i = .di ∨ i = .ei ∨ i = .reti
  halted : t.halted ≠ s.halted → i = .halt

/-- An instruction that may write the flags. -/
theorem Tame.execFrame {i : Instr} {s t : State} {n : Nat} (he : exec i s = .next (t.charge n))
    (hi : FlagWriter i ∨ i = .cbPrefix) (h : Tame s t) : ∃ t, exec i s = .next t ∧ ExecFrame i s t := by
  obtain ⟨⟨ime, halted⟩, mem, nh⟩ := h
  exact ⟨t.charge n, he, mem, nh, fun hw hcb => absurd hi (not_or.mpr ⟨hw, hcb⟩), absurd ime, absurd halted⟩

/-- An instruction that writes neither a flag nor a mode. -/
theorem Quiet.execFrame {i : Instr} {s t : State} {n : Nat} (he : exec i s = .next (t.charge n)) (h : Quiet s t) :
    ∃ t, exec i s = .next t ∧ ExecFrame i s t := by
  obtain ⟨⟨ime, halted⟩, mem, nh⟩ := h.tame
  exact ⟨t.charge n, he, mem, nh, fun _ _ => h.1, absurd ime, absurd halted⟩

/-- An instruction that writes IME, and perhaps PC, after its accesses. -/
theorem Quiet.execFrame_ime {i : Instr} {s t : State} {pc : Word} {b : Bool} {n : Nat}
    (he : exec i s = .next (State.charge n { t with pc := pc, ime := b })) (hi : i = .di ∨ i = .ei ∨ i = .reti)
    (h : Quiet s t) : ∃ t, exec i s = .next t ∧ ExecFrame i s t := by
  obtain ⟨⟨-, halted⟩, mem, nh⟩ := h.tame
  exact ⟨_, he, mem, nh, fun _ _ => h.1, fun _ => hi, absurd halted⟩

/-- Each instruction is an operation that is quiet, or tame where R38 lists the instruction, followed by a charge; DI,
EI, RETI and HALT write their mode besides. -/
theorem exec_frame (i : Instr) (s : State) : ∃ t, exec i s = .next t ∧ ExecFrame i s t := by
  induction i using Instr.byFamily with
  | alu op o =>
    cases o with
    | reg r => exact Tame.execFrame (exec_alu_reg s op r) (.inl (.alu op _)) (alu_tame op (s.reg r) s)
    | atHL =>
      exact Tame.execFrame (exec_alu_atHL s op) (.inl (.alu op _)) ((memRead_quiet s.hl s).tame.trans (alu_tame op _ _))
  | aluImm op d8 => exact Tame.execFrame (exec_aluImm s op d8) (.inl (.aluImm op d8)) (alu_tame op d8 s)
  | inc o =>
    cases o with
    | reg r => exact Tame.execFrame (exec_inc_reg s r) (.inl (.inc _)) (incReg_tame r s)
    | atHL => exact Tame.execFrame (exec_inc_atHL s) (.inl (.inc _)) (incMem_tame s)
  | dec o =>
    cases o with
    | reg r => exact Tame.execFrame (exec_dec_reg s r) (.inl (.dec _)) (decReg_tame r s)
    | atHL => exact Tame.execFrame (exec_dec_atHL s) (.inl (.dec _)) (decMem_tame s)
  | addHL p => exact Tame.execFrame (exec_addHL s p) (.inl (.addHL p)) (write_tame _ _ (ofAdd_wf ..) s)
  | add_SP_e e =>
    exact Tame.execFrame (exec_add_SP_e s e) (.inl (.add_SP_e e)) (write_tame _ _ (ofAdd_wf (lo s.sp) e false) s)
  | ld_HL_SPe e =>
    exact Tame.execFrame (exec_ld_HL_SPe s e) (.inl (.ld_HL_SPe e)) (write_tame _ _ (ofAdd_wf (lo s.sp) e false) s)
  | rotate op o => exact Tame.execFrame (exec_rotate s op o) (.inl (.rotate op o)) (rotate_tame op o s)
  | bit b o => exact Tame.execFrame (exec_bit s b o) (.inl (.bit b o)) (testBit_tame b o s)
  | rlca | rrca | rla | rra | scf | ccf =>
    exact Tame.execFrame rfl (.inl (.special (by simp))) (writeConst_tame false false s)
  | daa => exact Tame.execFrame (exec_daa s) (.inl (.special (by simp))) (writeConst_tame s.fN false s)
  | cpl => exact Tame.execFrame (exec_cpl s) (.inl (.special (by simp))) (writeConst_tame true true s)
  | pop p =>
    cases p with
    | af =>
      exact Tame.execFrame (exec_pop s .af) (.inl (.special (by simp [Group.pop])))
        ((pop16_quiet s).tame.trans (setAF_tame ..))
    | bc | de | hl =>
      exact Quiet.execFrame (exec_pop s _) ((pop16_quiet s).trans (setStackPair_quiet (by decide) _ _))
  | cbPrefix => exact Tame.execFrame (exec_cbPrefix s) (.inr rfl) (prefixed_tame s)
  | ldRegReg dst r => exact Quiet.execFrame (exec_ldRegReg s dst r) (setReg_quiet dst (s.reg r) s)
  | ldRegMem dst => exact Quiet.execFrame (exec_ldRegMem s dst) ((memRead_quiet s.hl s).trans (setReg_quiet dst _ _))
  | ldMemReg r => exact Quiet.execFrame (exec_ldMemReg s r) (memWrite_quiet s.hl (s.reg r) s)
  | ldImm o d8 =>
    cases o with
    | reg r => exact Quiet.execFrame (exec_ldImm_reg s r d8) (setReg_quiet r d8 s)
    | atHL => exact Quiet.execFrame (exec_ldImm_atHL s d8) (memWrite_quiet s.hl d8 s)
  | ldPair p d16 => exact Quiet.execFrame (exec_ldPair s p d16) (setPair_quiet p d16 s)
  | incPair p => exact Quiet.execFrame (exec_incPair s p) (setPair_quiet p _ s)
  | decPair p => exact Quiet.execFrame (exec_decPair s p) (setPair_quiet p _ s)
  | jrCond cc e => exact Quiet.execFrame (exec_jrCond s cc e) (.ite _ ((Quiet.refl s).setPC _))
  | jpCond cc a16 => exact Quiet.execFrame (exec_jpCond s cc a16) (.ite _ ((Quiet.refl s).setPC _))
  | callCond cc a16 => exact Quiet.execFrame (exec_callCond s cc a16) (.ite _ ((push16_quiet s.pc s).setPC _))
  | retCond cc => exact Quiet.execFrame (exec_retCond s cc) (.ite _ ((pop16_quiet s).setPC _))
  | push p => exact Quiet.execFrame (exec_push s p) (push16_quiet (s.stackPair p) s)
  | rst y => exact Quiet.execFrame (exec_rst s y) ((push16_quiet s.pc s).setPC _)
  | res b o => exact Quiet.execFrame (exec_res s b o) (resetBit_quiet b o s)
  | set b o => exact Quiet.execFrame (exec_set s b o) (setBit_quiet b o s)
  | ld_mA16_SP a16 =>
    exact Quiet.execFrame (exec_ld_mA16_SP s a16)
      ((memWrite_quiet a16 (lo s.sp) s).trans (memWrite_quiet (a16 + 1) (hi s.sp) _))
  | call_a16 => exact Quiet.execFrame rfl ((push16_quiet s.pc s).setPC _)
  | ret => exact Quiet.execFrame rfl ((pop16_quiet s).setPC _)
  | ldh_mA8_A | ld_mA16_A | ld_mBC_A | ld_mDE_A | ld_mC_A => exact Quiet.execFrame rfl (memWrite_quiet _ s.a s)
  | ld_mHLI_A | ld_mHLD_A => exact Quiet.execFrame rfl ((memWrite_quiet s.hl s.a s).setHL _)
  | ldh_A_mA8 | ld_A_mA16 | ld_A_mBC | ld_A_mDE | ld_A_mC =>
    exact Quiet.execFrame rfl ((memRead_quiet _ s).setA _)
  | ld_A_mHLI | ld_A_mHLD => exact Quiet.execFrame rfl (((memRead_quiet s.hl s).setA _).setHL _)
  | jr_e | jp_a16 | jp_mHL | nop | stop | ld_SP_HL | invalid_D3 | invalid_DB | invalid_DD | invalid_E3 | invalid_E4 |
    invalid_EB | invalid_EC | invalid_ED | invalid_F4 | invalid_FC | invalid_FD =>
    exact Quiet.execFrame rfl (Quiet.refl s)
  | reti => exact Quiet.execFrame_ime (exec_reti s) (.inr (.inr rfl)) (pop16_quiet s)
  | di => exact Quiet.execFrame_ime (exec_di s) (.inl rfl) (Quiet.refl s)
  | ei => exact Quiet.execFrame_ime (exec_ei s) (.inr (.inl rfl)) (Quiet.refl s)
  | halt => exact ⟨_, exec_halt s, id, id, fun _ _ => ⟨rfl, rfl, rfl⟩, absurd rfl, fun _ => rfl⟩

/-! ## The invariant through a step -/

theorem exec_keeps_inv {i : Instr} {s t : State} (hs : s.Inv) (h : exec i s = .next t) : t.Inv := by
  obtain ⟨u, hu, frame⟩ := exec_frame i s
  obtain rfl : t = u := by simpa using h.symm.trans hu
  exact ⟨frame.canonical hs.mem, frame.consistent hs.nh⟩

/-- The check writes no flag, and its push keeps memory in canonical form. -/
theorem serviceInterrupt_keeps_inv {s : State} (hs : s.Inv) : (serviceInterrupt s).Inv :=
  ⟨serviceInterrupt_wf hs.mem, by rw [serviceInterrupt_nh]; exact hs.nh⟩

theorem fetchInstruction_keeps_inv {s : State} (hs : s.Inv) : (fetchInstruction s).2.Inv := by
  refine ⟨fetchInstruction_wf hs.mem, ?_⟩
  obtain ⟨_, _, _, _, _, _, _, h⟩ := fetchInstruction_snd s
  rw [h]
  exact hs.nh

/-- Settles O57: the check keeps the invariant, and so does what follows it, a halted step's charge or the fetch and the
execution of one instruction. -/
theorem stepKeepsInvariant : Obligations.StepKeepsInvariant := by
  intro s t hs hstep
  have hcheck : (serviceInterrupt s.beginStep).Inv := serviceInterrupt_keeps_inv ⟨hs.mem, hs.nh⟩
  rcases step_cases s with ⟨-, h⟩ | ⟨-, i, -, -, h⟩
  · obtain rfl : _ = t := by simpa using h.symm.trans hstep
    exact ⟨hcheck.mem, hcheck.nh⟩
  · exact exec_keeps_inv (fetchInstruction_keeps_inv hcheck) (h.symm.trans hstep)

/-- Settles O41: the two clauses are two of the frame of every instruction. -/
theorem onlyModeInstructionsChangeModes : Obligations.OnlyModeInstructionsChangeModes := by
  intro i s
  obtain ⟨t, hexec, frame⟩ := exec_frame i s
  exact ⟨t, hexec, frame.ime, frame.halted⟩

/-- Settles O9: the frame's clause on the flags, which leaves out the byte 0xCB alone; that is not complete (R242). -/
theorem onlyFlagWritersWriteFlags : Obligations.OnlyFlagWritersWriteFlags := by
  intro i s hwf hi
  obtain ⟨t, hexec, frame⟩ := exec_frame i s
  exact ⟨t, hexec, frame.flags hi fun hcb => by simp [hcb, Instr.wf] at hwf⟩

/-- Settles O56: nothing is listed in memory, and N and H are held directly. -/
theorem resetMeetsInvariant : Obligations.ResetMeetsInvariant := ⟨Memory.wf_reset, trivial⟩

end Sys2Proof.Machine
end

section
/-! PROOFS. The deferred and the direct representation of N and H give the same behaviour (R46): every operation
commutes with passing to the direct state a state stands for. The lemmas move that passage outwards. -/

namespace Sys2Proof.Machine

variable (s : State)

/-! ## What an operation reads of a state -/

@[simp] theorem toDirect_a : s.toDirect.a = s.a := rfl
@[simp] theorem toDirect_c : s.toDirect.c = s.c := rfl
@[simp] theorem toDirect_sp : s.toDirect.sp = s.sp := rfl
@[simp] theorem toDirect_pc : s.toDirect.pc = s.pc := rfl
@[simp] theorem toDirect_fZ : s.toDirect.fZ = s.fZ := rfl
@[simp] theorem toDirect_fN : s.toDirect.fN = s.fN := rfl
@[simp] theorem toDirect_fH : s.toDirect.fH = s.fH := rfl
@[simp] theorem toDirect_fC : s.toDirect.fC = s.fC := rfl
@[simp] theorem toDirect_ime : s.toDirect.ime = s.ime := rfl
@[simp] theorem toDirect_halted : s.toDirect.halted = s.halted := rfl
@[simp] theorem toDirect_params : s.toDirect.params = s.params := rfl
@[simp] theorem toDirect_requests : s.toDirect.requests = s.requests := rfl
@[simp] theorem toDirect_bc : s.toDirect.bc = s.bc := rfl
@[simp] theorem toDirect_de : s.toDirect.de = s.de := rfl
@[simp] theorem toDirect_hl : s.toDirect.hl = s.hl := rfl
@[simp] theorem toDirect_packFlags : s.toDirect.packFlags = s.packFlags := rfl
@[simp] theorem toDirect_reg (r : Reg8) : s.toDirect.reg r = s.reg r := by cases r <;> rfl
@[simp] theorem toDirect_pair (p : Pair) : s.toDirect.pair p = s.pair p := by cases p <;> rfl
@[simp] theorem toDirect_stackPair (p : StackPair) : s.toDirect.stackPair p = s.stackPair p := by cases p <;> rfl
@[simp] theorem toDirect_cond (cc : Cond) : s.toDirect.cond cc = s.cond cc := by cases cc <;> rfl

/-! ## The shared operations -/

@[simp] theorem charge_toDirect (n : Nat) : s.toDirect.charge n = (s.charge n).toDirect := rfl
theorem chargeBase_toDirect (op : Byte) : s.toDirect.chargeBase op = (s.chargeBase op).toDirect := rfl
@[simp] theorem setHL_toDirect (v : Word) : s.toDirect.setHL v = (s.setHL v).toDirect := rfl
@[simp] theorem setReg_toDirect (r : Reg8) (v : Byte) : s.toDirect.setReg r v = (s.setReg r v).toDirect := by
  cases r <;> rfl
@[simp] theorem setPair_toDirect (p : Pair) (v : Word) : s.toDirect.setPair p v = (s.setPair p v).toDirect := by
  cases p <;> rfl

@[simp] theorem memRead_toDirect (a : Word) : memRead a s.toDirect = ((memRead a s).1, (memRead a s).2.toDirect) := by
  have hk : s.toDirect.kindAt a = s.kindAt a := rfl
  unfold memRead
  rw [hk]
  split <;> rfl

@[simp] theorem memWrite_toDirect (a : Word) (v : Byte) : memWrite a v s.toDirect = (memWrite a v s).toDirect := by
  have hk : s.toDirect.kindAt a = s.kindAt a := rfl
  unfold memWrite
  rw [hk]
  split <;> rfl

@[simp] theorem readOperand_toDirect (o : Operand8) :
    s.toDirect.readOperand o = ((s.readOperand o).1, (s.readOperand o).2.toDirect) := by
  cases o with
  | reg r => simp [State.readOperand]
  | atHL => exact memRead_toDirect s s.hl

@[simp] theorem writeOperand_toDirect (o : Operand8) (v : Byte) :
    s.toDirect.writeOperand o v = (s.writeOperand o v).toDirect := by
  cases o with
  | reg r => exact setReg_toDirect s r v
  | atHL => exact memWrite_toDirect s s.hl v

@[simp] theorem push16_toDirect (v : Word) : push16 v s.toDirect = (push16 v s).toDirect := by
  simp only [push16_eq, toDirect_sp, memWrite_toDirect]
  rfl

@[simp] theorem pop16_toDirect : pop16 s.toDirect = ((pop16 s).1, (pop16 s).2.toDirect) := by
  simp only [pop16_eq, toDirect_sp, memRead_toDirect]
  rfl

@[simp] theorem fetch8_toDirect : fetch8 s.toDirect = ((fetch8 s).1, (fetch8 s).2.toDirect) := by
  simp only [fetch8, toDirect_pc, memRead_toDirect]
  rfl

@[simp] theorem fetchBytes_toDirect (n : Nat) :
    fetchBytes n s.toDirect = ((fetchBytes n s).1, (fetchBytes n s).2.toDirect) := by
  induction n generalizing s with
  | zero => rfl
  | succ n ih => simp only [fetchBytes, fetch8_toDirect, ih]

@[simp] theorem fetchInstruction_toDirect :
    fetchInstruction s.toDirect = ((fetchInstruction s).1, (fetchInstruction s).2.toDirect) := by
  simp only [fetchInstruction, fetch8_toDirect, fetchBytes_toDirect]

/-! ## Writing flags -/

/-- R47: a row of deferred fields that reads as the bits an instruction detects. -/
theorem setFlags_toDirect {n h : Bool} {d : Deferred} (z c : Bool) (hn : (NHFlags.lazyNH d).n = n)
    (hh : (NHFlags.lazyNH d).h = h) : s.toDirect.setFlags z n h c d = (s.setFlags z n h c d).toDirect :=
  (toDirect_setFlags z c s hn hh).symm

@[simp] theorem setConstFlags_toDirect (z n h c : Bool) :
    s.toDirect.setConstFlags z n h c = (s.setConstFlags z n h c).toDirect :=
  setFlags_toDirect s z c (canonical_n n h) (canonical_h n h)

@[simp] theorem setFlags_ofAdd_toDirect (z c : Bool) (a b : Byte) (cin : Bool) :
    s.toDirect.setFlags z false (add8 a b cin).half c (Deferred.ofAdd a b cin) =
      (s.setFlags z false (add8 a b cin).half c (Deferred.ofAdd a b cin)).toDirect :=
  setFlags_toDirect s z c rfl (ofAdd_h a b cin)

@[simp] theorem setFlags_ofSub_toDirect (z c : Bool) (a b : Byte) (cin : Bool) :
    s.toDirect.setFlags z true (sub8 a b cin).half c (Deferred.ofSub a b cin) =
      (s.setFlags z true (sub8 a b cin).half c (Deferred.ofSub a b cin)).toDirect :=
  setFlags_toDirect s z c rfl (ofSub_h a b cin)

@[simp] theorem setFlags_ofAdd16_toDirect (z c : Bool) (a b : Word) :
    s.toDirect.setFlags z false (half16 a b) c (Deferred.ofAdd16 a b) =
      (s.setFlags z false (half16 a b) c (Deferred.ofAdd16 a b)).toDirect :=
  setFlags_toDirect s z c rfl (ofAdd16_h a b)

/-- R163, R201: the half-carry of the low byte of SP is that of the addition the deferred fields describe. -/
theorem halfSPe_eq_half (sp : Word) (e : Byte) : halfSPe sp e = (add8 (lo sp) e false).half := by
  simp [halfSPe, add8]

/-- R172, R174: adding 1 carries out of the low nibble where that is 0xF. -/
theorem low_nibble_eq_half_add (old : Byte) : (old.toNat % 16 == 0xF) = (add8 old 1 false).half := by
  have hone : (1 : Byte).toNat = 1 := rfl
  rw [Bool.eq_iff_iff]
  simp only [add8, hone, beq_iff_eq, decide_eq_true_eq, Bool.toNat_false]
  omega

/-- R173, R175: subtracting 1 borrows from the high nibble where the low one is 0. -/
theorem low_nibble_eq_half_sub (old : Byte) : (old.toNat % 16 == 0x0) = (sub8 old 1 false).half := by
  rw [Bool.eq_iff_iff]
  simp [sub8]

@[simp] theorem incFlags_toDirect (old : Byte) : incFlags old s.toDirect = (incFlags old s).toDirect := by
  simp only [incFlags, low_nibble_eq_half_add, toDirect_fC, setFlags_ofAdd_toDirect]

@[simp] theorem decFlags_toDirect (old : Byte) : decFlags old s.toDirect = (decFlags old s).toDirect := by
  simp only [decFlags, low_nibble_eq_half_sub, toDirect_fC, setFlags_ofSub_toDirect]

@[simp] theorem aluAdd_toDirect (v : Byte) (cin : Bool) : aluAdd v cin s.toDirect = (aluAdd v cin s).toDirect := by
  simp only [aluAdd, toDirect_a, setFlags_ofAdd_toDirect]
  rfl

@[simp] theorem aluCompare_toDirect (v : Byte) (cin : Bool) :
    aluCompare v cin s.toDirect = (aluCompare v cin s).toDirect := by
  simp only [aluCompare, toDirect_a, setFlags_ofSub_toDirect]

@[simp] theorem aluSub_toDirect (v : Byte) (cin : Bool) : aluSub v cin s.toDirect = (aluSub v cin s).toDirect := by
  simp only [aluSub, toDirect_a, aluCompare_toDirect]
  rfl

@[simp] theorem aluLogic_toDirect (res : Byte) (half : Bool) :
    aluLogic res half s.toDirect = (aluLogic res half s).toDirect := by
  simp only [aluLogic, setConstFlags_toDirect]
  rfl

@[simp] theorem alu_toDirect (op : AluOp) (v : Byte) : alu op v s.toDirect = (alu op v s).toDirect := by
  cases op <;> simp only [alu, toDirect_a, toDirect_fC, aluAdd_toDirect, aluSub_toDirect, aluLogic_toDirect,
    aluCompare_toDirect]

@[simp] theorem setStackPair_toDirect (p : StackPair) (v : Word) :
    s.toDirect.setStackPair p v = (s.setStackPair p v).toDirect := by
  cases p with
  | af => exact setConstFlags_toDirect { s with a := hi v } _ _ _ _
  | bc | de | hl => rfl

/-! ## The operations of the instructions -/

@[simp] theorem copyReg_toDirect (dst r : Reg8) : copyReg dst r s.toDirect = (copyReg dst r s).toDirect := by
  simp [copyReg]
@[simp] theorem loadMem_toDirect (dst : Reg8) : loadMem dst s.toDirect = (loadMem dst s).toDirect := by simp [loadMem]
@[simp] theorem storeReg_toDirect (r : Reg8) : storeReg r s.toDirect = (storeReg r s).toDirect := by simp [storeReg]
@[simp] theorem loadImm_toDirect (dst : Reg8) (d8 : Byte) :
    loadImm dst d8 s.toDirect = (loadImm dst d8 s).toDirect := by
  simp [loadImm]
@[simp] theorem storeImm_toDirect (d8 : Byte) : storeImm d8 s.toDirect = (storeImm d8 s).toDirect := by
  simp [storeImm]
@[simp] theorem loadA_toDirect (addr : Word) : loadA addr s.toDirect = (loadA addr s).toDirect := by
  simp only [loadA, memRead_toDirect]
  rfl
@[simp] theorem storeA_toDirect (addr : Word) : storeA addr s.toDirect = (storeA addr s).toDirect := by simp [storeA]
@[simp] theorem loadAThenHL_toDirect (delta : Word) :
    loadAThenHL delta s.toDirect = (loadAThenHL delta s).toDirect := by
  simp only [loadAThenHL, toDirect_hl, memRead_toDirect]
  rfl
@[simp] theorem storeAThenHL_toDirect (delta : Word) :
    storeAThenHL delta s.toDirect = (storeAThenHL delta s).toDirect := by
  simp [storeAThenHL]
@[simp] theorem loadPair_toDirect (p : Pair) (d16 : Word) :
    loadPair p d16 s.toDirect = (loadPair p d16 s).toDirect := by
  simp [loadPair]
@[simp] theorem storeSP_toDirect (a16 : Word) : storeSP a16 s.toDirect = (storeSP a16 s).toDirect := by
  simp [storeSP, memWrite16]
@[simp] theorem copyHLtoSP_toDirect : copyHLtoSP s.toDirect = (copyHLtoSP s).toDirect := rfl
@[simp] theorem loadHLfromSP_toDirect (e : Byte) : loadHLfromSP e s.toDirect = (loadHLfromSP e s).toDirect := by
  simp [loadHLfromSP, halfSPe_eq_half]
@[simp] theorem incPair_toDirect (p : Pair) : incPair p s.toDirect = (incPair p s).toDirect := by simp [incPair]
@[simp] theorem decPair_toDirect (p : Pair) : decPair p s.toDirect = (decPair p s).toDirect := by simp [decPair]
@[simp] theorem incReg_toDirect (r : Reg8) : incReg r s.toDirect = (incReg r s).toDirect := by simp [incReg]
@[simp] theorem decReg_toDirect (r : Reg8) : decReg r s.toDirect = (decReg r s).toDirect := by simp [decReg]
@[simp] theorem incMem_toDirect : incMem s.toDirect = (incMem s).toDirect := by simp [incMem]
@[simp] theorem decMem_toDirect : decMem s.toDirect = (decMem s).toDirect := by simp [decMem]
@[simp] theorem aluReg_toDirect (op : AluOp) (r : Reg8) : aluReg op r s.toDirect = (aluReg op r s).toDirect := by
  simp [aluReg]
@[simp] theorem aluMem_toDirect (op : AluOp) : aluMem op s.toDirect = (aluMem op s).toDirect := by simp [aluMem]
@[simp] theorem aluImm_toDirect (op : AluOp) (d8 : Byte) : aluImm op d8 s.toDirect = (aluImm op d8 s).toDirect := by
  simp [aluImm]
@[simp] theorem addHL_toDirect (p : Pair) : addHL p s.toDirect = (addHL p s).toDirect := by simp [addHL]
@[simp] theorem addSP_toDirect (e : Byte) : addSP e s.toDirect = (addSP e s).toDirect := by
  simp only [addSP, halfSPe_eq_half, toDirect_sp, setFlags_ofAdd_toDirect]
  rfl
@[simp] theorem jumpRelative_toDirect (e : Byte) : jumpRelative e s.toDirect = (jumpRelative e s).toDirect := rfl
@[simp] theorem jumpTo_toDirect (a16 : Word) : jumpTo a16 s.toDirect = (jumpTo a16 s).toDirect := rfl
@[simp] theorem jumpHL_toDirect : jumpHL s.toDirect = (jumpHL s).toDirect := rfl
@[simp] theorem call_toDirect (target : Word) : call target s.toDirect = (call target s).toDirect := by
  simp only [call, toDirect_pc, push16_toDirect]
  rfl
@[simp] theorem restart_toDirect (y : Fin 8) : restart y s.toDirect = (restart y s).toDirect := by simp [restart]
@[simp] theorem popPC_toDirect : popPC s.toDirect = (popPC s).toDirect := by
  simp only [popPC, pop16_toDirect]
  rfl
@[simp] theorem returnFromInterrupt_toDirect : returnFromInterrupt s.toDirect = (returnFromInterrupt s).toDirect := by
  simp only [returnFromInterrupt, pop16_toDirect]
  rfl
@[simp] theorem jumpRelativeIf_toDirect (cc : Cond) (e : Byte) :
    jumpRelativeIf cc e s.toDirect = (jumpRelativeIf cc e s).toDirect := by
  simp [jumpRelativeIf, apply_ite State.toDirect]
@[simp] theorem jumpIf_toDirect (cc : Cond) (a16 : Word) : jumpIf cc a16 s.toDirect = (jumpIf cc a16 s).toDirect := by
  simp [jumpIf, apply_ite State.toDirect]
@[simp] theorem callIf_toDirect (cc : Cond) (a16 : Word) : callIf cc a16 s.toDirect = (callIf cc a16 s).toDirect := by
  simp [callIf, apply_ite State.toDirect]
@[simp] theorem returnIf_toDirect (cc : Cond) : returnIf cc s.toDirect = (returnIf cc s).toDirect := by
  simp [returnIf, apply_ite State.toDirect]
@[simp] theorem pushPair_toDirect (p : StackPair) : pushPair p s.toDirect = (pushPair p s).toDirect := by
  simp [pushPair]
@[simp] theorem popPair_toDirect (p : StackPair) : popPair p s.toDirect = (popPair p s).toDirect := by simp [popPair]
@[simp] theorem rotate_toDirect (op : RotOp) (o : Operand8) : rotate op o s.toDirect = (rotate op o s).toDirect := by
  simp [rotate]
@[simp] theorem testBit_toDirect (b : Fin 8) (o : Operand8) : testBit b o s.toDirect = (testBit b o s).toDirect := by
  simp [testBit]
@[simp] theorem resetBit_toDirect (b : Fin 8) (o : Operand8) :
    resetBit b o s.toDirect = (resetBit b o s).toDirect := by
  simp [resetBit]
@[simp] theorem setBit_toDirect (b : Fin 8) (o : Operand8) : setBit b o s.toDirect = (setBit b o s).toDirect := by
  simp [setBit]
@[simp] theorem rotateA_toDirect (op : RotOp) : rotateA op s.toDirect = (rotateA op s).toDirect := by
  simp only [rotateA, toDirect_a, toDirect_fC, setConstFlags_toDirect]
  rfl
@[simp] theorem decimalAdjustA_toDirect : decimalAdjustA s.toDirect = (decimalAdjustA s).toDirect := by
  simp only [decimalAdjustA, toDirect_a, toDirect_fN, toDirect_fH, toDirect_fC, setConstFlags_toDirect]
  rfl
@[simp] theorem complementA_toDirect : complementA s.toDirect = (complementA s).toDirect := by
  simp only [complementA, toDirect_fZ, toDirect_fC, setConstFlags_toDirect]
  rfl
@[simp] theorem setCarry_toDirect : setCarry s.toDirect = (setCarry s).toDirect := by simp [setCarry]
@[simp] theorem complementCarry_toDirect : complementCarry s.toDirect = (complementCarry s).toDirect := by
  simp [complementCarry]
@[simp] theorem disableInterrupts_toDirect : disableInterrupts s.toDirect = (disableInterrupts s).toDirect := rfl
@[simp] theorem enableInterrupts_toDirect : enableInterrupts s.toDirect = (enableInterrupts s).toDirect := rfl
@[simp] theorem halt_toDirect : halt s.toDirect = (halt s).toDirect := rfl
@[simp] theorem noEffect_toDirect : noEffect s.toDirect = (noEffect s).toDirect := rfl
@[simp] theorem invalidOpcode_toDirect (op : Byte) : invalidOpcode op s.toDirect = (invalidOpcode op s).toDirect :=
  rfl

/-- R115: the second byte selects one of four operations. -/
@[simp] theorem extended_toDirect (op2 : Byte) : extended op2 s.toDirect = (extended op2 s).toDirect := by
  unfold extended
  dsimp only
  split <;> simp

@[simp] theorem prefixed_toDirect : prefixed s.toDirect = (prefixed s).toDirect := by simp [prefixed]

/-! ## Instructions and steps -/

@[simp] theorem mapNext_next (f : State → State) : mapNext f (.next s) = .next (f s) := rfl

/-- Every instruction is an operation above, followed by a charge. -/
theorem exec_toDirect (i : Instr) : mapNext State.toDirect (exec i s) = exec i s.toDirect := by
  induction i using Instr.byFamily with
  | inc o => cases o <;> simp
  | dec o => cases o <;> simp
  | ldImm o d8 => cases o <;> simp
  | alu op o => cases o <;> simp
  | ld_mHLD_A =>
    -- rewritten, not simplified: the kernel is slow to follow simp through the step -1
    rw [exec_ld_mHLD_A, exec_ld_mHLD_A, storeAThenHL_toDirect, chargeBase_toDirect, mapNext_next]
  | _ => simp

@[simp] theorem enterInterrupt_toDirect (n : Fin 5) : enterInterrupt n s.toDirect = (enterInterrupt n s).toDirect := by
  simp only [enterInterrupt_eq, toDirect_pc, push16_toDirect]
  rfl

/-- R290: the check looks at IME, halted and the requests, which are the same in both states. -/
@[simp] theorem serviceInterrupt_toDirect : serviceInterrupt s.toDirect = (serviceInterrupt s).toDirect := by
  simp only [serviceInterrupt, toDirect_ime, toDirect_halted, toDirect_requests, apply_ite State.toDirect]
  congr 2
  exact enterInterrupt_toDirect { s with halted := false } _

/-- The fetched bytes do not depend on the representation, so neither does what they decode to. -/
theorem runInstruction_toDirect : mapNext State.toDirect (runInstruction s) = runInstruction s.toDirect := by
  simp only [runInstruction, fetchInstruction_toDirect]
  split
  · exact exec_toDirect ..
  · rfl

theorem step_toDirect : mapNext State.toDirect (step s) = step s.toDirect := by
  have hcheck : serviceInterrupt s.toDirect.beginStep = (serviceInterrupt s.beginStep).toDirect :=
    serviceInterrupt_toDirect s.beginStep
  unfold step
  rw [hcheck, toDirect_halted]
  split
  · rfl
  · exact runInstruction_toDirect _

theorem dbgRead_toDirect (f : DbgField) : dbgRead f s.toDirect = dbgRead f s := by cases f <;> rfl

/-- R304: only a write of N or H has to do with the representation. -/
theorem dbgWrite_toDirect (f : DbgField) (v : Word) : dbgWrite f v s.toDirect = (dbgWrite f v s).toDirect := by
  cases f with
  | fN => exact setConstFlags_toDirect s s.fZ (v.getLsbD 0) s.fH s.fC
  | fH => exact setConstFlags_toDirect s s.fZ s.fN (v.getLsbD 0) s.fC
  | _ => rfl

/-- Settles O8: the flag byte, the DBG port, the instructions and the steps, each through the direct state. -/
theorem flagRepresentationsAgree : Obligations.FlagRepresentationsAgree :=
  ⟨toDirect_packFlags, fun f v s => ⟨dbgRead_toDirect s f, dbgWrite_toDirect s f v⟩, fun i s => exec_toDirect s i,
    step_toDirect⟩

end Sys2Proof.Machine
end

section
/-! PROOFS. The flag byte (R41 to R43), and the deferred fields of N and H: how they read (R45) and what every
instruction stores in them (R47). -/

namespace Sys2Proof.Machine

/-! ## The detectors as operations on bytes -/

theorem setWidth_ofBool (c : Bool) : BitVec.setWidth 8 (BitVec.ofBool c) = bitByte c := by cases c <;> rfl

/-- R180: the result of an addition, over bytes. -/
theorem add8_res (a b : Byte) (c : Bool) : (add8 a b c).res = a + b + bitByte c := by
  apply BitVec.eq_of_toNat_eq
  cases c <;> simp [add8, bitByte]

/-- R180: the result of a subtraction, over bytes. -/
theorem sub8_res (a b : Byte) (c : Bool) : (sub8 a b c).res = a - b - bitByte c := by
  simp only [sub8, sub_eq_add_neg, BitVec.ofInt_add, BitVec.ofInt_neg, BitVec.ofInt_natCast, BitVec.ofNat_toNat,
    BitVec.setWidth_eq]
  cases c <;> rfl

/-- R180: the half-carry is the carry into bit 4. -/
theorem add8_half (a b : Byte) (c : Bool) : (add8 a b c).half = BitVec.carry 4 a b c := by
  rw [Bool.eq_iff_iff]
  simp only [add8, BitVec.carry, decide_eq_true_eq]
  omega

/-- R45: the half-carry is bit 4 of the XOR of the operands and the result. -/
theorem add8_half_eq_xor (a b : Byte) (c : Bool) : (add8 a b c).half = (a ^^^ b ^^^ (add8 a b c).res).getLsbD 4 := by
  rw [add8_half, add8_res, ← setWidth_ofBool, BitVec.getLsbD_xor, BitVec.getLsbD_add_add_bool (by decide),
    BitVec.getLsbD_xor]
  cases a.getLsbD 4 <;> cases b.getLsbD 4 <;> simp

/-- A difference and its subtrahend add up to the minuend, with the borrow as the carry. -/
theorem add8_sub8_res (a b : Byte) (c : Bool) : (add8 (sub8 a b c).res b c).res = a := by
  rw [add8_res, sub8_res]
  bv_omega

/-- The borrow of a subtraction is the carry of the addition that undoes it. -/
theorem sub8_half (a b : Byte) (c : Bool) : (sub8 a b c).half = (add8 (sub8 a b c).res b c).half := by
  rw [sub8_res, Bool.eq_iff_iff]
  simp only [sub8, add8, decide_eq_true_eq]
  cases c <;> simp [bitByte] <;> bv_omega

theorem sub8_half_eq_xor (a b : Byte) (c : Bool) : (sub8 a b c).half = (a ^^^ b ^^^ (sub8 a b c).res).getLsbD 4 := by
  rw [sub8_half, add8_half_eq_xor, add8_sub8_res, BitVec.xor_comm, BitVec.xor_comm _ b, BitVec.xor_assoc]

/-! ## Reading the deferred fields -/

/-- R45: the half-carry of the operation the fields describe, under the invariant of R44. -/
theorem NHFlags.h_lazy_of_wf {d : Deferred} (hd : d.wf) :
    (NHFlags.lazyNH d).h = (d.nhA ^^^ d.nhB ^^^ d.nhRes).getLsbD 4 := by
  obtain ⟨a, b, cin, res, sub⟩ := d
  cases sub
  · obtain rfl : res = (add8 a b cin).res := by simpa [Deferred.wf] using hd
    exact (ofAdd_h a b cin).trans (add8_half_eq_xor a b cin)
  · obtain rfl : res = (sub8 a b cin).res := by simpa [Deferred.wf] using hd
    exact (ofSub_h a b cin).trans (sub8_half_eq_xor a b cin)

/-- Settles O6: the first two clauses are how the fields are read, and the third holds of additions and subtractions. -/
theorem deferredFlagsRead : Obligations.DeferredFlagsRead := by
  intro s d hs
  have hN : s.fN = d.nhSub := by rw [State.fN, hs]; rfl
  have hH : s.fH = (NHFlags.lazyNH d).h := by rw [State.fH, hs]
  refine ⟨hN, ?_, fun hd => hH.trans (NHFlags.h_lazy_of_wf hd)⟩
  rw [hH, NHFlags.h]
  cases d.nhSub <;> rfl

/-! ## The flag byte -/

/-- R41: the packed byte of four flags. -/
def flagByte (z n h c : Bool) : Byte :=
  BitVec.ofNat 8 (z.toNat * 0x80 + n.toNat * 0x40 + h.toNat * 0x20 + c.toNat * 0x10)

theorem packFlags_of_flagsAre {z n h c : Bool} {s : State} (hs : FlagsAre z n h c s) :
    s.packFlags = flagByte z n h c := by
  obtain ⟨rfl, rfl, rfl, rfl⟩ := hs
  rfl

theorem toNat_flagByte : ∀ z n h c : Bool,
    (flagByte z n h c).toNat = z.toNat * 0x80 + n.toNat * 0x40 + h.toNat * 0x20 + c.toNat * 0x10 := by decide

/-- R41: the flags are bits 7 to 4 of their byte. -/
theorem flagByte_bits : ∀ z n h c : Bool, (flagByte z n h c).getLsbD 7 = z ∧ (flagByte z n h c).getLsbD 6 = n ∧
    (flagByte z n h c).getLsbD 5 = h ∧ (flagByte z n h c).getLsbD 4 = c := by decide

/-- R43: the byte of bits 7 to 4 is the byte with its low nibble cleared. -/
theorem flagByte_of_bits : ∀ v : Byte,
    flagByte (v.getLsbD 7) (v.getLsbD 6) (v.getLsbD 5) (v.getLsbD 4) = v &&& 0xF0 := by decide

/-- R42: unpacking writes the four flags from bits 7 to 4. -/
theorem unpackFlags_flags (v : Byte) (s : State) :
    FlagsAre (v.getLsbD 7) (v.getLsbD 6) (v.getLsbD 5) (v.getLsbD 4) (s.unpackFlags v) :=
  setConstFlags_flags ..

/-- R42: unpacking writes nothing but the flags. -/
theorem unpackFlags_onlyRegs (v : Byte) (s : State) : OnlyRegs [] s (s.unpackFlags v) :=
  ⟨fun r _ => State.reg_setConstFlags s r .., rfl, rfl, ⟨rfl, rfl⟩, rfl, rfl, rfl, rfl, rfl, rfl⟩

/-- Settles O5: packing is flagByte and unpacking takes its bits, so the round trips are those of bytes. -/
theorem flagByteRoundTrip : Obligations.FlagByteRoundTrip := by
  intro s v
  refine ⟨toNat_flagByte .., unpackFlags_flags v s, unpackFlags_onlyRegs v s, ?_, ?_⟩
  · obtain ⟨hz, hn, hh, hc⟩ := flagByte_bits s.fZ s.fN s.fH s.fC
    have h := unpackFlags_flags (flagByte s.fZ s.fN s.fH s.fC) s
    rwa [hz, hn, hh, hc] at h
  · rw [packFlags_of_flagsAre (unpackFlags_flags v s), flagByte_of_bits]

/-! ## Storing the deferred fields -/

@[simp] theorem readOperand_nh (o : Operand8) (s : State) : (s.readOperand o).2.nh = s.nh := by
  cases o <;> simp [State.readOperand]

@[simp] theorem writeOperand_nh (o : Operand8) (v : Byte) (s : State) : (s.writeOperand o v).nh = s.nh := by
  cases o <;> simp [State.writeOperand]

section Stores

variable {s t : State} {d : Deferred}

/-- R47: an instruction that writes N and H replaces all five fields. -/
theorem NHFlags.write_lazy {x : NHFlags} (hx : x = .lazyNH d) (n h : Bool) (d' : Deferred) :
    x.write n h d' = .lazyNH d' := by
  rw [hx, NHFlags.write]

/-- An instruction that answers u leaves the N and H of u. -/
theorem nh_of_exec {i : Instr} {u : State} {n : Nat} {x : NHFlags} (he : exec i s = .next (u.charge n))
    (hu : u.nh = x) (h : exec i s = .next t) : t.nh = x := by
  obtain rfl : u.charge n = t := by simpa using he.symm.trans h
  exact hu

theorem ofAdd_eq (a b : Byte) (c : Bool) :
    Deferred.ofAdd a b c = { nhA := a, nhB := b, nhCin := c, nhRes := a + b + bitByte c, nhSub := false } := by
  rw [Deferred.ofAdd, add8_res]

theorem ofSub_eq (a b : Byte) (c : Bool) :
    Deferred.ofSub a b c = { nhA := a, nhB := b, nhCin := c, nhRes := a - b - bitByte c, nhSub := true } := by
  rw [Deferred.ofSub, sub8_res]

@[simp] theorem bitByte_false : bitByte false = 0#8 := rfl

/-- R200: the row of ADD HL,rr, with the high byte of the sum as its result (R44). -/
theorem ofAdd16_eq (a b : Word) : Deferred.ofAdd16 a b =
    { nhA := hi a, nhB := hi b, nhCin := decide (0xFF < (lo a).toNat + (lo b).toNat), nhRes := hi (a + b),
      nhSub := false } := by
  have hcarry : (add8 (lo a) (lo b) false).carry = decide (0xFF < (lo a).toNat + (lo b).toNat) := by simp [add8]
  have hres : (add8 (hi a) (hi b) (decide (0xFF < (lo a).toNat + (lo b).toNat))).res = hi (a + b) := by
    apply BitVec.eq_of_toNat_eq
    by_cases h : 0xFF < a.toNat % 256 + b.toNat % 256 <;> simp [add8, h] <;> omega
  rw [Deferred.ofAdd16, Deferred.ofAdd, hcarry, hres]

variable (hs : s.nh = .lazyNH d)
include hs

/-- R47: the operands and the result, or the row that reads as the forced pair. -/
theorem alu_stores (op : AluOp) (v : Byte) : (alu op v s).nh = .lazyNH (aluDeferred op s.a v s.fC) := by
  have hw : ∀ n h d', s.nh.write n h d' = .lazyNH d' := NHFlags.write_lazy hs
  cases op with
  | add | adc => simp [alu, aluAdd, aluDeferred, hw, ofAdd_eq]
  | sub | sbc | cp => simp [alu, aluSub, aluCompare, aluDeferred, hw, ofSub_eq]
  | and | xor | or => simp [alu, aluLogic, aluDeferred, hw]

theorem exec_alu_stores (op : AluOp) (o : Operand8) (h : exec (Group.alu op o) s = .next t) :
    t.nh = .lazyNH (aluDeferred op s.a (s.readOperand o).1 s.fC) := by
  cases o with
  | reg r => exact nh_of_exec (exec_alu_reg s op r) (alu_stores hs op (s.reg r)) h
  | atHL =>
    refine nh_of_exec (exec_alu_atHL s op) ?_ h
    have hstores := alu_stores (s := (memRead s.hl s).2) (by rwa [memRead_nh]) op (memRead s.hl s).1
    rwa [memRead_a, memRead_fC] at hstores

theorem incFlags_stores (old : Byte) : (incFlags old s).nh =
    .lazyNH { nhA := old, nhB := 1, nhCin := false, nhRes := old + 1, nhSub := false } := by
  simp [incFlags, NHFlags.write_lazy hs, ofAdd_eq]

theorem decFlags_stores (old : Byte) : (decFlags old s).nh =
    .lazyNH { nhA := old, nhB := 1, nhCin := false, nhRes := old - 1, nhSub := true } := by
  simp [decFlags, NHFlags.write_lazy hs, ofSub_eq]

theorem exec_inc_stores (o : Operand8) (h : exec (Group.inc o) s = .next t) : t.nh = .lazyNH
    { nhA := (s.readOperand o).1, nhB := 1, nhCin := false, nhRes := (s.readOperand o).1 + 1, nhSub := false } := by
  cases o with
  | reg r => exact nh_of_exec (exec_inc_reg s r) (incFlags_stores (by rwa [State.setReg_nh]) _) h
  | atHL => exact nh_of_exec (exec_inc_atHL s) (incFlags_stores (by rwa [memWrite_nh, memRead_nh]) _) h

theorem exec_dec_stores (o : Operand8) (h : exec (Group.dec o) s = .next t) : t.nh = .lazyNH
    { nhA := (s.readOperand o).1, nhB := 1, nhCin := false, nhRes := (s.readOperand o).1 - 1, nhSub := true } := by
  cases o with
  | reg r => exact nh_of_exec (exec_dec_reg s r) (decFlags_stores (by rwa [State.setReg_nh]) _) h
  | atHL => exact nh_of_exec (exec_dec_atHL s) (decFlags_stores (by rwa [memWrite_nh, memRead_nh]) _) h

theorem exec_addHL_stores (p : Pair) (h : exec (Group.addHL p) s = .next t) : t.nh = .lazyNH
    { nhA := s.h, nhB := hi (s.pair p), nhCin := decide (0xFF < s.l.toNat + (lo (s.pair p)).toNat),
      nhRes := hi (s.hl + s.pair p), nhSub := false } := by
  refine nh_of_exec (exec_addHL s p) ?_ h
  have hh : hi s.hl = s.h := hi_join s.h s.l
  have hl : lo s.hl = s.l := lo_join s.h s.l
  simp only [addHL, State.setHL_nh, State.setFlags_nh, NHFlags.write_lazy hs, ofAdd16_eq, hh, hl]

theorem addSPe_stores (e : Byte) (h : exec (.add_SP_e e) s = .next t ∨ exec (.ld_HL_SPe e) s = .next t) :
    t.nh = .lazyNH { nhA := lo s.sp, nhB := e, nhCin := false, nhRes := lo s.sp + e, nhSub := false } := by
  have hrow : s.nh.write false (halfSPe s.sp e) (Deferred.ofAdd (lo s.sp) e false) = .lazyNH
      { nhA := lo s.sp, nhB := e, nhCin := false, nhRes := lo s.sp + e, nhSub := false } := by
    simp [NHFlags.write_lazy hs, ofAdd_eq]
  rcases h with h | h
  · exact nh_of_exec (exec_add_SP_e s e) hrow h
  · exact nh_of_exec (exec_ld_HL_SPe s e) hrow h

theorem exec_rotate_stores (op : RotOp) (o : Operand8) (h : exec (Group.rotate op o) s = .next t) :
    t.nh = .lazyNH (Deferred.canonical false false) :=
  nh_of_exec (exec_rotate s op o) (NHFlags.write_lazy (d := d) (by simpa using hs) _ _ _) h

theorem exec_bit_stores (b : Fin 8) (o : Operand8) (h : exec (Group.bit b o) s = .next t) :
    t.nh = .lazyNH (Deferred.canonical false true) :=
  nh_of_exec (exec_bit s b o) (NHFlags.write_lazy (d := d) (by simpa using hs) _ _ _) h

/-- R260 to R263, R266, R267: the specials that clear N and H. -/
theorem exec_clears_stores (i : Instr) (hi : i ∈ [Instr.rlca, .rrca, .rla, .rra, .scf, .ccf]) (h : exec i s = .next t) :
    t.nh = .lazyNH (Deferred.canonical false false) := by
  have hrow := NHFlags.write_lazy hs false false (Deferred.canonical false false)
  simp only [List.mem_cons, List.not_mem_nil, or_false] at hi
  rcases hi with rfl | rfl | rfl | rfl | rfl | rfl <;> exact nh_of_exec rfl hrow h

theorem unpackFlags_stores (v : Byte) :
    (s.unpackFlags v).nh = .lazyNH (Deferred.canonical (v.getLsbD 6) (v.getLsbD 5)) :=
  NHFlags.write_lazy hs _ _ _

/-- R235: the flags come from the low byte, which is the first one read. -/
theorem exec_pop_AF_stores (h : exec .pop_AF s = .next t) :
    t.nh = .lazyNH (Deferred.canonical ((memRead s.sp s).1.getLsbD 6) ((memRead s.sp s).1.getLsbD 5)) := by
  have hlo : lo (pop16 s).1 = (memRead s.sp s).1 := by rw [pop16_fst, lo_join]
  have hnh : (pop16 s).2.nh = .lazyNH d := by rwa [pop16_nh]
  refine nh_of_exec (exec_pop s .af) ?_ h
  rw [← hlo]
  exact NHFlags.write_lazy hnh _ _ _

end Stores

/-- Settles O7: one lemma for each group of instructions that store a row, and the frame of every instruction for those
that leave the fields. -/
theorem deferredFieldsStored : Obligations.DeferredFieldsStored := by
  intro s t d hs
  have hrow : ∀ n h, s.nh.write n h (Deferred.canonical n h) = .lazyNH (Deferred.canonical n h) :=
    fun n h => NHFlags.write_lazy hs n h _
  refine ⟨exec_alu_stores hs, fun op d8 => nh_of_exec (exec_aluImm s op d8) (alu_stores hs op d8),
    exec_inc_stores hs, exec_dec_stores hs, exec_addHL_stores hs, addSPe_stores hs, exec_rotate_stores hs,
    exec_bit_stores hs, exec_clears_stores hs, nh_of_exec (exec_daa s) (hrow s.fN false),
    nh_of_exec (exec_cpl s) (hrow true true), exec_pop_AF_stores hs, unpackFlags_stores hs,
    fun v => ⟨hrow _ _, hrow _ _⟩, fun i h hi hcb => ?_⟩
  obtain ⟨u, hu, frame⟩ := exec_frame i s
  obtain rfl : u = t := by simpa using hu.symm.trans h
  exact (frame.flags hi hcb).2.1

end Sys2Proof.Machine
end

section
/-! PROOFS. Memory behind the bus: a read gives the byte last written (R74, R75, R85), and what stands in for memory at an
unmapped address (R76, R77). -/

namespace Sys2Proof.Machine

/-! ## Reading after writing -/

/-- A write at an address that is no device's leaves which addresses are readable. -/
theorem memWrite_isReadable {a b : Word} (v : Byte) {s : State} (hd : s.kindAt a ≠ .device) (hb : s.isReadable b) :
    (memWrite a v s).isReadable b := by
  rwa [State.isReadable, kindAt_of_busMap (memWrite_busMap v hd) b]

/-- R74, R75: once written, a plain address reads as the byte. -/
theorem memRead_memWrite_eq {a : Word} (v : Byte) {s : State} (hm : Memory.wf s.mem) (ha : s.isPlain a) :
    (memRead a (memWrite a v s)).1 = v := by
  have hd : s.kindAt a ≠ .device := by simp [ha]
  calc (memRead a (memWrite a v s)).1
      = (memWrite a v s).byteAt a := by rw [memRead_of_readable (memWrite_isReadable v hd (.inl ha))]
    _ = byteAfterWrite a v s := memWrite_byteAt_eq a v hm hd
    _ = v := if_pos ha

/-- A write at an address that is no device's leaves what every other readable address reads as. -/
theorem memRead_memWrite_ne {a b : Word} (v : Byte) {s : State} (hd : s.kindAt a ≠ .device) (hne : b ≠ a)
    (hb : s.isReadable b) : (memRead b (memWrite a v s)).1 = (memRead b s).1 := by
  rw [memRead_of_readable (memWrite_isReadable v hd hb), memRead_of_readable hb]
  exact memWrite_byteAt_ne v hd hne

/-- A write keeps memory in canonical form and does not touch the flags. -/
theorem memWrite_keeps_inv (a : Word) (v : Byte) {s : State} (hs : s.Inv) : (memWrite a v s).Inv :=
  ⟨memWrite_wf a v hs.mem, by rw [memWrite_nh]; exact hs.nh⟩

/-- Settles O43: a plain address is readable and no device's, so the rules for one write and one read compose. -/
theorem readAfterWrite : Obligations.ReadAfterWrite := by
  intro a b v s hs ha
  have hd : s.kindAt a ≠ .device := by simp [ha]
  exact ⟨memRead_memWrite_eq v hs.mem ha, memRead_memWrite_ne v hd, memWrite_keeps_inv a v hs⟩

/-! ## Unmapped addresses -/

theorem memRead_of_unmapped {a : Word} {s : State} (h : s.kindAt a = .unmapped) :
    memRead a s = (0xFF, { s with trace := s.trace ++ [.report .invalidRead a] }) := by
  simp only [memRead, h]
  rfl

theorem memWrite_of_unmapped {a : Word} (v : Byte) {s : State} (h : s.kindAt a = .unmapped) :
    memWrite a v s = { s with trace := s.trace ++ [.report .invalidWrite a] } := by
  simp only [memWrite, h]
  rfl

/-- R76: where the opcode is unmapped, the byte 0xFF is all that is fetched, since the instruction it tells has one
byte. -/
theorem fetchInstruction_of_unmapped {s : State} (h : s.kindAt s.pc = .unmapped) :
    fetchInstruction s =
      ([0xFF], { s with pc := s.pc + 1, trace := s.trace ++ [.report .invalidRead s.pc] }) := by
  have hlen : opcodeLength 0xFF - 1 = 0 := by decide
  simp only [fetchInstruction, fetch8, memRead_of_unmapped h, hlen, fetchBytes]

/-- R298: a step that is not halted executes what the fetched bytes decode to. -/
theorem step_of_decode {s : State} {i : Instr} {rest : List Byte}
    (hrun : (serviceInterrupt s.beginStep).halted = false)
    (hd : decode (fetchInstruction (serviceInterrupt s.beginStep)).1 = .ok (i, rest)) :
    step s = exec i (fetchInstruction (serviceInterrupt s.beginStep)).2 := by
  simp [step, hrun, runInstruction, hd]

/-- Settles O42: the unmapped branch of each access, and 0xFF as the fetched instruction, which decodes to RST 0x38. -/
theorem unmappedAccesses : Obligations.UnmappedAccesses := by
  intro a v s
  refine ⟨fun h => ?_, fun hrun h => ?_⟩
  · rw [memRead_of_unmapped h]
    exact ⟨rfl, rfl, memWrite_of_unmapped v h⟩
  · have hfetch := fetchInstruction_of_unmapped h
    have hd : decode (fetchInstruction (serviceInterrupt s.beginStep)).1 = .ok (.rst_38, []) := by
      rw [hfetch]
      rfl
    have hstep := step_of_decode hrun hd
    rw [hfetch] at hstep
    obtain ⟨t, ht⟩ := exec_answers .rst_38 { serviceInterrupt s.beginStep with
      pc := (serviceInterrupt s.beginStep).pc + 1
      trace := (serviceInterrupt s.beginStep).trace ++ [.report .invalidRead (serviceInterrupt s.beginStep).pc] }
    exact ⟨t, hstep.trans ht, ht⟩

end Sys2Proof.Machine
end

section
/-! PROOFS. The encoding: the decoder and the encoder are inverse to each other on complete instructions (R101, R110,
R111, R115), the first byte alone tells the length (R100), and what the byte 0xCB (R114) and the unassigned codes (R112)
do. -/

namespace Sys2Proof.Machine

/-! ## Decoding what is encoded -/

/-- R107: an instruction of two operand bytes, which the decoder joins again. -/
theorem decode_encode_withWord {f : Word → Instr} {op : Byte} (he : ∀ w, encode (f w) = [op, lo w, hi w])
    (hd : ∀ bs, decode (op :: bs) = withWord f bs) (w : Word) (rest : List Byte) :
    decode (encode (f w) ++ rest) = .ok (f w, rest) :=
  calc decode (encode (f w) ++ rest)
      = withWord f (lo w :: hi w :: rest) := by rw [he]; exact hd _
    _ = .ok (f (join (hi w) (lo w)), rest) := rfl
    _ = .ok (f w, rest) := by rw [join_hi_lo]

/-- R114: an instruction of the extended map, which is the one its second byte selects. -/
theorem decode_encode_decodeExtended (op2 : Byte) (rest : List Byte) :
    decode (encode (decodeExtended op2) ++ rest) = .ok (decodeExtended op2, rest) := by
  rw [encode_decodeExtended]
  rfl

/-- R101, R110, R111, R115: the families of the extended map go through their second byte, those with a 16-bit operand
through its two bytes; of the others each member's opcode is a number, on which the decoder computes. -/
theorem decode_encode {i : Instr} (hi : i.wf = true) (rest : List Byte) :
    decode (encode i ++ rest) = .ok (i, rest) := by
  induction i using Instr.byFamily with
  | cbPrefix => simp [Instr.wf] at hi
  | rotate op o => rw [rotate_eq_decodeExtended]; exact decode_encode_decodeExtended _ rest
  | bit b o => rw [bit_eq_decodeExtended]; exact decode_encode_decodeExtended _ rest
  | res b o => rw [res_eq_decodeExtended]; exact decode_encode_decodeExtended _ rest
  | set b o => rw [set_eq_decodeExtended]; exact decode_encode_decodeExtended _ rest
  | ldPair p d16 => cases p <;> exact decode_encode_withWord (fun _ => rfl) (fun _ => rfl) d16 rest
  | jpCond cc a16 | callCond cc a16 =>
    cases cc <;> exact decode_encode_withWord (fun _ => rfl) (fun _ => rfl) a16 rest
  | ld_mA16_SP a16 | jp_a16 a16 | call_a16 a16 | ld_mA16_A a16 | ld_A_mA16 a16 =>
    exact decode_encode_withWord (fun _ => rfl) (fun _ => rfl) a16 rest
  | ldRegReg dst r => cases dst <;> cases r <;> rfl
  | ldRegMem r | ldMemReg r => cases r <;> rfl
  | ldImm o | inc o | dec o =>
    cases o with
    | reg r => cases r <;> rfl
    | atHL => rfl
  | alu op o =>
    cases o with
    | reg r => cases op <;> cases r <;> rfl
    | atHL => cases op <;> rfl
  | aluImm op => cases op <;> rfl
  | incPair p | decPair p | addHL p | push p | pop p => cases p <;> rfl
  | jrCond cc | retCond cc => cases cc <;> rfl
  | rst y => fin_cases y <;> rfl
  | _ => rfl

/-- Settles O1: family by family, `decode_encode`. -/
theorem decodeInvertsEncode : Obligations.DecodeInvertsEncode := fun _ rest hi => decode_encode hi rest

/-- Settles O4: each word is the encoding of the instruction it stands for, and decoding gives that back. -/
theorem exampleWordsDecode : Obligations.ExampleWordsDecode :=
  ⟨decode_encode (i := .ld_HL_d16 0x1234) rfl [], decode_encode (i := .jr_e 0xFE) rfl [],
    decode_encode (i := .set_1_E) rfl [], decode_encode (i := .inc_A) rfl [0x3C, 0x3C],
    decode_encode (i := .ld_A_d8 0x45) rfl [], decode_encode (i := .ld_mHL_d8 0x99) rfl [],
    decode_encode (i := .ld_mA16_A 0xC100) rfl [], decode_encode (i := .ld_SP_d16 0xFFFE) rfl [],
    decode_encode (i := .rst_28) rfl [], decode_encode (i := .rlc_B) rfl [], decode_encode (i := .res_0_mHL) rfl [],
    decode_encode (i := .stop) rfl [0x3C], decode_encode (i := .invalid_DD) rfl [0x3C]⟩

/-! ## Encoding what is decoded -/

/-- R117: decoding by the primary map, in each of the three formats, reads the bytes of what it answers. -/
theorem encode_of_decodePrimary {op : Byte} (hcb : op ≠ 0xCB) {bs rest : List Byte} {i : Instr}
    (h : decodePrimary op bs = .ok (i, rest)) : encode i ++ rest = op :: bs := by
  rcases decodePrimary_shape hcb with ⟨j, hd, -, he, -⟩ | ⟨f, hd, hf, -⟩ | ⟨f, hd, hf, -⟩ <;> rw [hd] at h
  · cases h
    rw [he]
    rfl
  · match bs, h with
    | b :: _, rfl =>
      rw [(hf b).2]
      rfl
  · match bs, h with
    | b1 :: b2 :: _, rfl =>
      rw [(hf (join b2 b1)).2, lo_join, hi_join]
      rfl

/-- Settles O2: 0xCB alone, 0xCB with its second byte (R114), and the primary map. -/
theorem encodeInvertsDecode : Obligations.EncodeInvertsDecode := by
  intro bs i rest h
  match bs, h with
  | op :: tail, h =>
    by_cases hcb : op = 0xCB
    · subst hcb
      match tail, h with
      | [], rfl => rfl
      | op2 :: _, rfl =>
        rw [encode_decodeExtended]
        rfl
    · rw [decode_of_ne_cb hcb] at h
      exact encode_of_decodePrimary hcb h

/-! ## The length -/

/-- R100, R116: three bytes are enough for the format of any opcode, whose length `opcodeLength` tells. -/
theorem decode_three_bytes (op b1 b2 : Byte) (rest : List Byte) : ∃ i : Instr, i.wf = true ∧
    (encode i).length = opcodeLength op ∧
    decode (op :: b1 :: b2 :: rest) = .ok (i, (op :: b1 :: b2 :: rest).drop (encode i).length) := by
  by_cases hcb : op = 0xCB
  · subst hcb
    have he := encode_decodeExtended b1
    exact ⟨decodeExtended b1, wf_decodeExtended b1, by rw [he]; rfl, by rw [he]; rfl⟩
  · rw [decode_of_ne_cb hcb]
    rcases decodePrimary_shape hcb with ⟨j, hd, hw, he, hl⟩ | ⟨f, hd, hf, hl⟩ | ⟨f, hd, hf, hl⟩ <;> rw [hd, hl]
    · exact ⟨j, hw, by rw [he]; rfl, by rw [he]; rfl⟩
    · obtain ⟨hw, he⟩ := hf b1
      exact ⟨f b1, hw, by rw [he]; rfl, by rw [he]; rfl⟩
    · obtain ⟨hw, he⟩ := hf (join b2 b1)
      exact ⟨f (join b2 b1), hw, by rw [he]; rfl, by rw [he]; rfl⟩

/-- Settles O3: the statement's table of lengths is that of `opcodeLength`. -/
theorem firstByteTellsLength : Obligations.FirstByteTellsLength := decode_three_bytes

/-! ## The byte 0xCB -/

/-- Settles O34: the term of 0xCB alone by its meaning, and the extended instruction by `exec_decodeExtended`, are the
same operation on the same state. -/
theorem prefixRunsExtendedInstruction : Obligations.PrefixRunsExtendedInstruction :=
  ⟨fun _ _ => rfl, fun s => ⟨prefixed s, exec_cbPrefix s, exec_decodeExtended (fetch8 s).1 (fetch8 s).2⟩⟩

/-! ## The unassigned codes -/

/-- R330: what an instruction of one byte, other than 0xCB, costs when it has no condition. -/
theorem Costs.of_one_byte {i : Instr} {op : Byte} {s t : State} (he : encode i = [op]) (hcb : op ≠ 0xCB)
    (hcc : conditionOf op = none) (ht : t.cycles = addCount s.cycles (baseCost s.params op)) :
    Costs i (cyclesPrimary op) s t := by
  have hcost : ∀ base extended taken, costIn base extended taken i s = base op := fun _ _ _ => by
    simp only [costIn, he, if_neg hcb, hcc]
  exact .of_tableCost (by rw [ht, tableCost, hcost]) (hcost _ _ _)

/-- R112: the instructions of the eleven unassigned codes, with their codes. -/
def unassignedCodes : List (Instr × Byte) :=
  [(.invalid_D3, 0xD3), (.invalid_DB, 0xDB), (.invalid_DD, 0xDD), (.invalid_E3, 0xE3), (.invalid_E4, 0xE4),
    (.invalid_EB, 0xEB), (.invalid_EC, 0xEC), (.invalid_ED, 0xED), (.invalid_F4, 0xF4), (.invalid_FC, 0xFC),
    (.invalid_FD, 0xFD)]

/-- R110, R333: what the opcode tables say of the unassigned codes. -/
theorem unassignedCodes_tables : ∀ f ∈ unassignedCodes,
    encode f.1 = [f.2] ∧ f.2 ≠ 0xCB ∧ conditionOf f.2 = none ∧ cyclesPrimary f.2 = 4 := by decide

/-- R274: one meaning for all of them. -/
theorem exec_unassignedCodes (s : State) : ∀ f ∈ unassignedCodes,
    exec f.1 s = .next ((invalidOpcode f.2 s).chargeBase f.2) := by
  simp [unassignedCodes]

/-- Settles O40: the report and the charge touch the trace and the count only. -/
theorem unassignedCodesReport : Obligations.UnassignedCodesReport := by
  intro s f hf
  obtain ⟨hencode, hcb, hcond, hcycles⟩ := unassignedCodes_tables f hf
  have hdetail : zext16 f.2 = BitVec.ofNat 16 f.2.toNat := (BitVec.ofNat_toNat 16 f.2).symm
  exact ⟨hencode, _, exec_unassignedCodes s f hf, by rw [← hdetail]; rfl, fun r _ => by cases r <;> rfl, rfl, rfl,
    ⟨rfl, rfl, rfl⟩, ⟨rfl, rfl⟩, rfl, rfl, rfl, rfl, rfl, hcycles ▸ Costs.of_one_byte hencode hcb hcond rfl⟩

end Sys2Proof.Machine
end

section
/-! PROOFS. The 8-bit loads and stores (R130 to R148). Three shapes serve them all: a register is written, a byte is
read into a register, a byte is written to memory; the forms that step HL write H and L besides. -/

namespace Sys2Proof.Machine

/-! ## What an instruction of the primary map costs -/

/-- R333, R335: an opcode of the primary map that tests no condition, with its recommended cost. -/
abbrev Unconditional (op : Byte) (n : Nat) : Prop := op ≠ 0xCB ∧ conditionOf op = none ∧ cyclesPrimary op = n

/-- R330: an instruction, whatever its operand bytes, that charges the base cost of such an opcode after an operation
that leaves the parameters and the count. -/
theorem Costs.of_chargeBase {i : Instr} {op : Byte} {operands : List Byte} {n : Nat} {s u : State}
    (hencode : encode i = op :: operands) (hop : Unconditional op n) (hparams : u.params = s.params)
    (hcycles : u.cycles = s.cycles) : Costs i n s (u.chargeBase op) := by
  obtain ⟨hcb, hcond, hn⟩ := hop
  have hcost : ∀ base extended taken, costIn base extended taken i s = base op := fun _ _ _ => by
    simp only [costIn, hencode, if_neg hcb, hcond]
  refine .of_tableCost ?_ ((hcost _ _ _).trans hn)
  rw [tableCost, hcost, State.chargeBase_eq, State.charge_cycles, hparams, hcycles]

/-! ## Writing a register -/

theorem setReg_onlyRegs (r : Reg8) (v : Byte) (s : State) : OnlyRegs [r] s (s.setReg r v) := by
  have hregs : SameRegsBut [r] s (s.setReg r v) := fun q hq =>
    State.reg_setReg_ne s v fun h => hq (List.mem_singleton.mpr h)
  cases r <;> exact ⟨hregs, rfl, rfl, ⟨rfl, rfl⟩, SameBus.refl s⟩

theorem OnlyRegs.chargeBase {changed : List Reg8} {s t : State} (h : OnlyRegs changed s t) (op : Byte) :
    OnlyRegs changed s (t.chargeBase op) := by
  obtain ⟨regs, rest⟩ := h
  exact ⟨fun r hr => (State.reg_charge t r _).trans (regs r hr), rest⟩

/-- R130, R133: an instruction that writes one register. -/
theorem setReg_effect {i : Instr} {op : Byte} {operands : List Byte} {n : Nat} {dst : Reg8} {v : Byte} {s : State}
    (hencode : encode i = op :: operands) (hop : Unconditional op n)
    (hexec : exec i s = .next ((s.setReg dst v).chargeBase op)) :
    ∃ t, exec i s = .next t ∧ t.reg dst = v ∧ OnlyRegs [dst] s t ∧ SameFlags s t ∧ Costs i n s t := by
  obtain ⟨flags, -, -⟩ := setReg_quiet dst v s
  exact ⟨_, hexec, by simp, (setReg_onlyRegs dst v s).chargeBase op, flags,
    .of_chargeBase hencode hop (State.setReg_params s dst v) (State.setReg_cycles s dst v)⟩

/-! ## One access -/

/-- What a load or a store leaves: the registers that are not listed, SP, PC, the flags and the modes are kept, and
behind the bus there are the accesses alone. -/
structure AccessFrame (changed : List Reg8) (accessed stored : List Word) (calls : List PortEvent) (s t : State) :
    Prop where
  regs : SameRegsBut changed s t
  sp : t.sp = s.sp
  pc : t.pc = s.pc
  flags : SameFlags s t
  modes : SameModes s t
  bus : BusAfter accessed stored calls s t

section AccessFrame

variable {changed : List Reg8} {accessed stored : List Word} {calls : List PortEvent} {s t : State}

theorem memRead_accessFrame (a : Word) (s : State) :
    AccessFrame [] [a] [] [readCall a (memRead a s).1 s] s (memRead a s).2 := by
  obtain ⟨flags, modes, -⟩ := memRead_quiet a s
  exact ⟨fun r _ => memRead_reg a s r, memRead_sp a s, memRead_pc a s, flags, modes, memRead_busAfter a s⟩

theorem memWrite_accessFrame (a : Word) (v : Byte) (s : State) :
    AccessFrame [] [a] [a] [writeCall a v s] s (memWrite a v s) := by
  obtain ⟨flags, modes, -⟩ := memWrite_quiet a v s
  exact ⟨fun r _ => memWrite_reg a v s r, memWrite_sp a v s, memWrite_pc a v s, flags, modes, memWrite_busAfter a v s⟩

/-- A register written after the accesses. -/
theorem AccessFrame.setReg (h : AccessFrame changed accessed stored calls s t) (r : Reg8) (v : Byte) :
    AccessFrame (changed ++ [r]) accessed stored calls s (t.setReg r v) := by
  have hregs : SameRegsBut (changed ++ [r]) s (t.setReg r v) := fun q hq => by
    rw [List.mem_append, List.mem_singleton, not_or] at hq
    rw [State.reg_setReg_ne t v hq.2, h.regs q hq.1]
  cases r <;> exact ⟨hregs, h.sp, h.pc, h.flags, h.modes, h.bus⟩

/-- R32: HL is written by its two halves. -/
theorem AccessFrame.setHL (h : AccessFrame changed accessed stored calls s t) (v : Word) :
    AccessFrame (changed ++ [.h] ++ [.l]) accessed stored calls s (t.setHL v) :=
  (h.setReg .h (hi v)).setReg .l (lo v)

theorem AccessFrame.chargeBase (h : AccessFrame changed accessed stored calls s t) (op : Byte) :
    AccessFrame changed accessed stored calls s (t.chargeBase op) :=
  ⟨fun r hr => (State.reg_charge t r _).trans (h.regs r hr), h.sp, h.pc, h.flags, h.modes, h.bus⟩

end AccessFrame

section Effects

variable {i : Instr} {op : Byte} {operands : List Byte} {n : Nat} {s : State}
  (hencode : encode i = op :: operands) (hop : Unconditional op n)
include hencode hop

/-- R131, R135, R136, R143, R145, R147: an instruction that reads a byte into a register. -/
theorem load_effect {dst : Reg8} {a : Word}
    (hexec : exec i s = .next (((memRead a s).2.setReg dst (memRead a s).1).chargeBase op)) :
    ∃ t, exec i s = .next t ∧ t.reg dst = (memRead a s).1 ∧
      SameRegsBut [dst] s t ∧ t.sp = s.sp ∧ t.pc = s.pc ∧ SameFlags s t ∧ SameModes s t ∧
      BusAfter [a] [] [readCall a (memRead a s).1 s] s t ∧ Costs i n s t := by
  obtain ⟨regs, sp, pc, flags, modes, bus⟩ := ((memRead_accessFrame a s).setReg dst (memRead a s).1).chargeBase op
  exact ⟨_, hexec, by simp, regs, sp, pc, flags, modes, bus, .of_chargeBase hencode hop (by simp) (by simp)⟩

/-- R132, R134, R137, R138, R144, R146, R148: an instruction that writes a byte to memory. -/
theorem store_effect {a : Word} {v : Byte} (hexec : exec i s = .next ((memWrite a v s).chargeBase op)) :
    ∃ t, exec i s = .next t ∧
      SameRegsBut [] s t ∧ t.sp = s.sp ∧ t.pc = s.pc ∧ SameFlags s t ∧ SameModes s t ∧
      BusAfter [a] [a] [writeCall a v s] s t ∧ StoredBytes [(a, v)] s t ∧ Costs i n s t := by
  obtain ⟨regs, sp, pc, flags, modes, bus⟩ := (memWrite_accessFrame a v s).chargeBase op
  exact ⟨_, hexec, regs, sp, pc, flags, modes, bus, (memWrite_storedBytes a v s).then_mem rfl,
    .of_chargeBase hencode hop (memWrite_params a v s) (memWrite_cycles a v s)⟩

/-- R139, R140: an instruction that reads A at HL and then steps HL. -/
theorem loadAThenHL_effect {delta : Word} (hexec : exec i s = .next ((loadAThenHL delta s).chargeBase op)) :
    ∃ t, exec i s = .next t ∧ t.a = (memRead s.hl s).1 ∧ t.hl = s.hl + delta ∧
      SameRegsBut [.a, .h, .l] s t ∧ t.sp = s.sp ∧ t.pc = s.pc ∧ SameFlags s t ∧ SameModes s t ∧
      BusAfter [s.hl] [] [readCall s.hl (memRead s.hl s).1 s] s t ∧ Costs i n s t := by
  have frame : AccessFrame [.a, .h, .l] [s.hl] [] [readCall s.hl (memRead s.hl s).1 s] s (loadAThenHL delta s) :=
    ((memRead_accessFrame s.hl s).setReg .a (memRead s.hl s).1).setHL (s.hl + delta)
  obtain ⟨regs, sp, pc, flags, modes, bus⟩ := frame.chargeBase op
  exact ⟨_, hexec, rfl, by simp [loadAThenHL], regs, sp, pc, flags, modes, bus,
    .of_chargeBase hencode hop (loadAThenHL_params s delta) (loadAThenHL_cycles s delta)⟩

/-- R141, R142: an instruction that writes A at HL and then steps HL. -/
theorem storeAThenHL_effect {delta : Word} (hexec : exec i s = .next ((storeAThenHL delta s).chargeBase op)) :
    ∃ t, exec i s = .next t ∧ t.hl = s.hl + delta ∧
      SameRegsBut [.h, .l] s t ∧ t.sp = s.sp ∧ t.pc = s.pc ∧ SameFlags s t ∧ SameModes s t ∧
      BusAfter [s.hl] [s.hl] [writeCall s.hl s.a s] s t ∧ StoredBytes [(s.hl, s.a)] s t ∧ Costs i n s t := by
  have frame : AccessFrame [.h, .l] [s.hl] [s.hl] [writeCall s.hl s.a s] s (storeAThenHL delta s) :=
    (memWrite_accessFrame s.hl s.a s).setHL (s.hl + delta)
  obtain ⟨regs, sp, pc, flags, modes, bus⟩ := frame.chargeBase op
  exact ⟨_, hexec, by simp [storeAThenHL], regs, sp, pc, flags, modes, bus,
    (memWrite_storedBytes s.hl s.a s).then_mem rfl,
    .of_chargeBase hencode hop (storeAThenHL_params s delta) (storeAThenHL_cycles s delta)⟩

end Effects

/-! ## The opcodes of the families (R111, R333) -/

theorem ldRegReg_opcode (dst r : Reg8) :
    encode (Group.ldRegReg dst r) = [BitVec.ofNat 8 (0x40 + 8 * dst.code + r.code)] ∧
      Unconditional (BitVec.ofNat 8 (0x40 + 8 * dst.code + r.code)) 4 := by
  cases dst <;> cases r <;> decide

theorem ldImm_reg_opcode (dst : Reg8) (d8 : Byte) :
    encode (Group.ldImm (.reg dst) d8) = [BitVec.ofNat 8 (0x06 + 8 * dst.code), d8] ∧
      Unconditional (BitVec.ofNat 8 (0x06 + 8 * dst.code)) 8 := by
  cases dst <;> exact ⟨rfl, by decide⟩

theorem ldRegMem_opcode (dst : Reg8) :
    encode (Group.ldRegMem dst) = [BitVec.ofNat 8 (0x46 + 8 * dst.code)] ∧
      Unconditional (BitVec.ofNat 8 (0x46 + 8 * dst.code)) 8 := by
  cases dst <;> decide

theorem ldMemReg_opcode (r : Reg8) :
    encode (Group.ldMemReg r) = [BitVec.ofNat 8 (0x70 + r.code)] ∧
      Unconditional (BitVec.ofNat 8 (0x70 + r.code)) 8 := by
  cases r <;> decide

/-! ## The statements -/

/-- Settles O10: both forms write one register. -/
theorem loadRegister : Obligations.LoadRegister := by
  intro dst r d8 s
  obtain ⟨hcopy, hcopyOp⟩ := ldRegReg_opcode dst r
  obtain ⟨himm, himmOp⟩ := ldImm_reg_opcode dst d8
  exact ⟨⟨hcopy, setReg_effect hcopy hcopyOp (exec_ldRegReg s dst r)⟩,
    himm, setReg_effect himm himmOp (exec_ldImm_reg s dst d8)⟩

/-- Settles O11: a load at the HL of the state before the register is written. -/
theorem loadRegisterFromMemory : Obligations.LoadRegisterFromMemory := by
  intro dst s
  obtain ⟨hencode, hop⟩ := ldRegMem_opcode dst
  exact ⟨hencode, load_effect hencode hop (exec_ldRegMem s dst)⟩

/-- Settles O12: both forms are stores at HL. -/
theorem storeAtHL : Obligations.StoreAtHL := by
  intro r d8 s
  obtain ⟨hencode, hop⟩ := ldMemReg_opcode r
  exact ⟨⟨hencode, store_effect hencode hop (exec_ldMemReg s r)⟩, rfl,
    store_effect rfl (by decide) (exec_ld_mHL_d8 s d8)⟩

/-- Settles O13: each form is a load into A at its own address. -/
theorem loadAccumulator : Obligations.LoadAccumulator := by
  intro a8 a16 s f hf
  simp only [List.mem_cons, List.not_mem_nil, or_false] at hf
  rcases hf with rfl | rfl | rfl | rfl | rfl
  · exact ⟨rfl, load_effect (dst := .a) (n := 8) rfl (by decide) (exec_ld_A_mBC s)⟩
  · exact ⟨rfl, load_effect (dst := .a) (n := 8) rfl (by decide) (exec_ld_A_mDE s)⟩
  · exact ⟨rfl, load_effect (dst := .a) (n := 16) rfl (by decide) (exec_ld_A_mA16 s a16)⟩
  · exact ⟨rfl, load_effect (dst := .a) (n := 12) rfl (by decide) (exec_ldh_A_mA8 s a8)⟩
  · exact ⟨rfl, load_effect (dst := .a) (n := 8) rfl (by decide) (exec_ld_A_mC s)⟩

/-- Settles O14: each form is a store of A at its own address. -/
theorem storeAccumulator : Obligations.StoreAccumulator := by
  intro a8 a16 s f hf
  simp only [List.mem_cons, List.not_mem_nil, or_false] at hf
  rcases hf with rfl | rfl | rfl | rfl | rfl
  · exact ⟨rfl, store_effect (n := 8) rfl (by decide) (exec_ld_mBC_A s)⟩
  · exact ⟨rfl, store_effect (n := 8) rfl (by decide) (exec_ld_mDE_A s)⟩
  · exact ⟨rfl, store_effect (n := 16) rfl (by decide) (exec_ld_mA16_A s a16)⟩
  · exact ⟨rfl, store_effect (n := 12) rfl (by decide) (exec_ldh_mA8_A s a8)⟩
  · exact ⟨rfl, store_effect (n := 8) rfl (by decide) (exec_ld_mC_A s)⟩

/-- Settles O15: both forms are a read at the old HL, with HL stepped by 1 or by -1. -/
theorem loadAccumulatorAndStep : Obligations.LoadAccumulatorAndStep := by
  intro s f hf
  simp only [List.mem_cons, List.not_mem_nil, or_false] at hf
  rcases hf with rfl | rfl
  · exact ⟨rfl, loadAThenHL_effect rfl (by decide) (exec_ld_A_mHLI s)⟩
  · rw [sub_eq_add_neg]
    exact ⟨rfl, loadAThenHL_effect rfl (by decide) (exec_ld_A_mHLD s)⟩

/-- Settles O16: both forms are a write at the old HL, with HL stepped by 1 or by -1. -/
theorem storeAccumulatorAndStep : Obligations.StoreAccumulatorAndStep := by
  intro s f hf
  simp only [List.mem_cons, List.not_mem_nil, or_false] at hf
  rcases hf with rfl | rfl
  · exact ⟨rfl, storeAThenHL_effect rfl (by decide) (exec_ld_mHLI_A s)⟩
  · rw [sub_eq_add_neg]
    exact ⟨rfl, storeAThenHL_effect rfl (by decide) (exec_ld_mHLD_A s)⟩

end Sys2Proof.Machine
end

section
/-! PROOFS. The 16-bit loads (R160 to R163), the increments and decrements of a pair (R170, R171) and ADD SP,e (R201).
A pair is written, two bytes are written to memory, or the flags are written from the low byte of SP and a
displacement. -/

namespace Sys2Proof.Machine

/-! ## Writing a pair -/

@[simp] theorem State.pair_charge (s : State) (p : Pair) (n : Nat) : (s.charge n).pair p = s.pair p := by
  cases p <;> rfl

/-- R32, R33: no pair holds A. -/
@[simp] theorem setPair_a (p : Pair) (v : Word) (s : State) : (s.setPair p v).a = s.a := by cases p <;> rfl

@[simp] theorem setPair_pc (p : Pair) (v : Word) (s : State) : (s.setPair p v).pc = s.pc := by cases p <;> rfl

theorem setPair_sameBus (p : Pair) (v : Word) (s : State) : SameBus s (s.setPair p v) := by
  cases p <;> exact SameBus.refl s

/-- R160, R170, R171: an instruction that writes one pair. -/
theorem setPair_effect {i : Instr} {op : Byte} {operands : List Byte} {n : Nat} {p : Pair} {v : Word} {s : State}
    (hencode : encode i = op :: operands) (hop : Unconditional op n)
    (hexec : exec i s = .next ((s.setPair p v).chargeBase op)) :
    ∃ t, exec i s = .next t ∧ t.pair p = v ∧ (∀ q, q ≠ p → t.pair q = s.pair q) ∧
      t.a = s.a ∧ t.pc = s.pc ∧ SameFlags s t ∧ SameModes s t ∧ SameBus s t ∧ Costs i n s t := by
  obtain ⟨flags, modes, -⟩ := setPair_quiet p v s
  have hothers : ∀ q, q ≠ p → ((s.setPair p v).chargeBase op).pair q = s.pair q := fun q hq =>
    (State.pair_charge _ q _).trans (State.pair_setPair_ne s v hq)
  exact ⟨_, hexec, by simp, hothers, setPair_a p v s, setPair_pc p v s, flags, modes, setPair_sameBus p v s,
    .of_chargeBase hencode hop (setPair_params s p v) (setPair_cycles s p v)⟩

/-! The opcodes of the three families (R111, R333). -/

theorem ldPair_opcode (p : Pair) (d16 : Word) :
    encode (Group.ldPair p d16) = [BitVec.ofNat 8 (0x01 + 16 * p.code), lo d16, hi d16] ∧
      Unconditional (BitVec.ofNat 8 (0x01 + 16 * p.code)) 12 := by
  cases p <;> exact ⟨rfl, by decide⟩

theorem incPair_opcode (p : Pair) :
    encode (Group.incPair p) = [BitVec.ofNat 8 (0x03 + 16 * p.code)] ∧
      Unconditional (BitVec.ofNat 8 (0x03 + 16 * p.code)) 8 := by
  cases p <;> decide

theorem decPair_opcode (p : Pair) :
    encode (Group.decPair p) = [BitVec.ofNat 8 (0x0B + 16 * p.code)] ∧
      Unconditional (BitVec.ofNat 8 (0x0B + 16 * p.code)) 8 := by
  cases p <;> decide

/-! ## Two accesses -/

/-- The frame of accesses one after another. -/
theorem AccessFrame.trans {changed changed' : List Reg8} {accessed accessed' stored stored' : List Word}
    {calls calls' : List PortEvent} {s t u : State} (h : AccessFrame changed accessed stored calls s t)
    (h' : AccessFrame changed' accessed' stored' calls' t u) :
    AccessFrame (changed ++ changed') (accessed ++ accessed') (stored ++ stored') (calls ++ calls') s u := by
  obtain ⟨z, nh, c⟩ := h.flags
  obtain ⟨z', nh', c'⟩ := h'.flags
  obtain ⟨ime, halted⟩ := h.modes
  obtain ⟨ime', halted'⟩ := h'.modes
  have hregs : SameRegsBut (changed ++ changed') s u := fun r hr => by
    rw [List.mem_append, not_or] at hr
    exact (h'.regs r hr.2).trans (h.regs r hr.1)
  exact ⟨hregs, h'.sp.trans h.sp, h'.pc.trans h.pc, ⟨z'.trans z, nh'.trans nh, c'.trans c⟩,
    ⟨ime'.trans ime, halted'.trans halted⟩, h.bus.trans h'.bus⟩

/-! ## SP and HL written, and the flags of SP plus a displacement -/

/-- R33: SP is none of the seven registers. -/
theorem State.reg_setSP (s : State) (v : Word) (r : Reg8) : ({ s with sp := v } : State).reg r = s.reg r := by
  cases r <;> rfl

theorem SameRegsBut.chargeBase {changed : List Reg8} {s t : State} (h : SameRegsBut changed s t) (op : Byte) :
    SameRegsBut changed s (t.chargeBase op) :=
  fun r hr => (State.reg_charge t r _).trans (h r hr)

theorem setFlags_onlyRegs (z n h c : Bool) (d : Deferred) (s : State) : OnlyRegs [] s (s.setFlags z n h c d) :=
  ⟨fun r _ => State.reg_setFlags s r z n h c d, rfl, rfl, ⟨rfl, rfl⟩, SameBus.refl s⟩

/-- R32: HL is written by its two halves. -/
theorem OnlyRegs.setHL {changed : List Reg8} {s t : State} (h : OnlyRegs changed s t) (v : Word) :
    OnlyRegs (changed ++ [.h, .l]) s (t.setHL v) := by
  obtain ⟨regs, rest⟩ := h
  refine ⟨fun r hr => ?_, rest⟩
  rw [List.mem_append, not_or] at hr
  obtain ⟨hchanged, hhl⟩ := hr
  rw [← regs r hchanged]
  cases r with
  | h | l => simp at hhl
  | _ => rfl

/-- R163, R201: the flags of LD HL,SP+e and of ADD SP,e, in both representations. -/
theorem setFlagsSPe_flags (e : Byte) (s : State) :
    FlagsAre false false (decide (0xF < s.sp.toNat % 16 + e.toNat % 16)) (decide (0xFF < s.sp.toNat % 256 + e.toNat))
      (s.setFlags false false (halfSPe s.sp e) (carrySPe s.sp e) (Deferred.ofAdd (lo s.sp) e false)) := by
  have hhalf : (NHFlags.lazyNH (Deferred.ofAdd (lo s.sp) e false)).h = halfSPe s.sp e :=
    (ofAdd_h (lo s.sp) e false).trans (halfSPe_eq_half s.sp e).symm
  exact setFlags_flags false (carrySPe s.sp e) s (ofAdd_n (lo s.sp) e false) hhalf

/-! ## The statements -/

/-- Settles O17: each form writes one pair. -/
theorem writePair : Obligations.WritePair := by
  intro p d16 s f hf
  obtain ⟨hload, hloadOp⟩ := ldPair_opcode p d16
  obtain ⟨hinc, hincOp⟩ := incPair_opcode p
  obtain ⟨hdec, hdecOp⟩ := decPair_opcode p
  simp only [List.mem_cons, List.not_mem_nil, or_false] at hf
  rcases hf with rfl | rfl | rfl
  · exact ⟨hload, setPair_effect hload hloadOp (exec_ldPair s p d16)⟩
  · exact ⟨hinc, setPair_effect hinc hincOp (exec_incPair s p)⟩
  · exact ⟨hdec, setPair_effect hdec hdecOp (exec_decPair s p)⟩

/-- Settles O18: two writes at two different addresses. -/
theorem storeStackPointer : Obligations.StoreStackPointer := by
  intro a16 s
  have frame : AccessFrame [] [a16, a16 + 1] [a16, a16 + 1]
      [writeCall a16 (lo s.sp) s, writeCall (a16 + 1) (hi s.sp) (memWrite a16 (lo s.sp) s)] s (storeSP a16 s) :=
    (memWrite_accessFrame a16 (lo s.sp) s).trans (memWrite_accessFrame (a16 + 1) (hi s.sp) _)
  have hstored : StoredBytes [(a16, lo s.sp), (a16 + 1, hi s.sp)] s (storeSP a16 s) :=
    memWrite_memWrite_storedBytes (add_one_ne a16) (lo s.sp) (hi s.sp) s
  obtain ⟨regs, sp, pc, flags, modes, bus⟩ := frame.chargeBase 0x08
  exact ⟨rfl, _, exec_ld_mA16_SP s a16, regs, sp, pc, flags, modes, bus, hstored.then_mem rfl,
    .of_chargeBase rfl (by decide) (storeSP_params s a16) (storeSP_cycles s a16)⟩

/-- Settles O19: LD SP,HL writes SP alone; the other two write the flags, and then HL or SP with the signed sum. -/
theorem stackPointerArithmetic : Obligations.StackPointerArithmetic := by
  intro e s
  have hsum : displaced s.sp e = BitVec.ofInt 16 ((s.sp.toNat : Int) + e.toInt) := add_sext16 s.sp e
  have hflags := setFlagsSPe_flags e s
  have hwrite := setFlags_onlyRegs false false (halfSPe s.sp e) (carrySPe s.sp e) (Deferred.ofAdd (lo s.sp) e false) s
  refine ⟨⟨rfl, _, exec_ld_SP_HL s, rfl, ?_⟩, ⟨rfl, _, exec_ld_HL_SPe s e, ?_, ?_, hflags, ?_⟩,
    ⟨rfl, _, exec_add_SP_e s e, hsum, ?_⟩⟩
  · have hregs : SameRegsBut [] s (copyHLtoSP s) := fun r _ => State.reg_setSP s s.hl r
    exact ⟨hregs.chargeBase 0xF9, rfl, ⟨rfl, rfl, rfl⟩, ⟨rfl, rfl⟩, SameBus.refl s,
      .of_chargeBase rfl (by decide) (copyHLtoSP_params s) (copyHLtoSP_cycles s)⟩
  · rw [State.chargeBase_eq, State.hl_charge, loadHLfromSP, State.hl_setHL, hsum]
  · exact (hwrite.setHL (displaced s.sp e)).chargeBase 0xF8
  · exact .of_chargeBase rfl (by decide) (loadHLfromSP_params s e) (loadHLfromSP_cycles s e)
  · obtain ⟨regs, -, pc, modes, bus⟩ := hwrite
    have hregs : SameRegsBut [] s (addSP e s) := fun r hr => (State.reg_setSP _ (displaced s.sp e) r).trans (regs r hr)
    exact ⟨hregs.chargeBase 0xE8, pc, modes, bus, hflags,
      .of_chargeBase rfl (by decide) (addSP_params s e) (addSP_cycles s e)⟩

end Sys2Proof.Machine
end

section
/-! PROOFS. The 8-bit increments and decrements (R172 to R175): the operand is written, in a register or by one read and
one write at HL, and then the flags of the old value. -/

namespace Sys2Proof.Machine

/-! ## The flags of an increment and of a decrement -/

/-- R172, R174: the sum is 0 at 0xFF alone. -/
theorem incFlags_flags (old : Byte) (s : State) :
    FlagsAre (decide (old = 0xFF)) false (decide (old.toNat % 16 = 0xF)) s.fC (incFlags old s) := by
  have hzero : (old + 1 == 0) = decide (old = 0xFF) := by
    rw [Bool.eq_iff_iff, beq_iff_eq, decide_eq_true_eq]
    bv_omega
  have hhalf : (NHFlags.lazyNH (Deferred.ofAdd old 1 false)).h = (old.toNat % 16 == 0xF) :=
    (ofAdd_h old 1 false).trans (low_nibble_eq_half_add old).symm
  rw [← hzero, ← beq_eq_decide]
  exact setFlags_flags (old + 1 == 0) s.fC s (ofAdd_n old 1 false) hhalf

/-- R173, R175: the difference is 0 at 1 alone. -/
theorem decFlags_flags (old : Byte) (s : State) :
    FlagsAre (decide (old = 1)) true (decide (old.toNat % 16 = 0)) s.fC (decFlags old s) := by
  have hzero : (old - 1 == 0) = decide (old = 1) := by
    rw [Bool.eq_iff_iff, beq_iff_eq, decide_eq_true_eq, sub_eq_zero]
  have hhalf : (NHFlags.lazyNH (Deferred.ofSub old 1 false)).h = (old.toNat % 16 == 0x0) :=
    (ofSub_h old 1 false).trans (low_nibble_eq_half_sub old).symm
  rw [← hzero, ← beq_eq_decide]
  exact setFlags_flags (old - 1 == 0) s.fC s (ofSub_n old 1 false) hhalf

/-! ## The operand written, and then the flags -/

theorem OnlyRegs.setFlags {changed : List Reg8} {s t : State} (hframe : OnlyRegs changed s t) (z n h c : Bool)
    (d : Deferred) : OnlyRegs changed s (t.setFlags z n h c d) := by
  obtain ⟨regs, rest⟩ := hframe
  exact ⟨fun r hr => (State.reg_setFlags t r z n h c d).trans (regs r hr), rest⟩

/-! In the next two rules z, n, h and c are as the model writes them, and the primed values as a rule says them. -/

section Effects

variable {i : Instr} {op : Byte} {operands : List Byte} {cost : Nat} {s : State} {z n h c z' n' h' c' : Bool}
  {d : Deferred} (hencode : encode i = op :: operands) (hop : Unconditional op cost)
include hencode hop

/-- R172, R173: an instruction that writes one register and the flags. -/
theorem setReg_setFlags_effect {r : Reg8} {v : Byte}
    (hexec : exec i s = .next (((s.setReg r v).setFlags z n h c d).chargeBase op))
    (hflags : FlagsAre z' n' h' c' ((s.setReg r v).setFlags z n h c d)) :
    ∃ t, exec i s = .next t ∧ t.reg r = v ∧ OnlyRegs [r] s t ∧ FlagsAre z' n' h' c' t ∧ Costs i cost s t :=
  ⟨_, hexec, by simp, ((setReg_onlyRegs r v s).setFlags z n h c d).chargeBase op, hflags,
    .of_chargeBase hencode hop (State.setReg_params s r v) (State.setReg_cycles s r v)⟩

/-- R80, R174, R175: an instruction that reads a byte, writes another one back to its address, and writes the flags. -/
theorem readModifyWrite_setFlags_effect {a : Word} {v : Byte}
    (hexec : exec i s = .next (((memWrite a v (memRead a s).2).setFlags z n h c d).chargeBase op))
    (hflags : FlagsAre z' n' h' c' ((memWrite a v (memRead a s).2).setFlags z n h c d)) :
    ∃ t, exec i s = .next t ∧ SameRegsBut [] s t ∧ t.sp = s.sp ∧ t.pc = s.pc ∧ SameModes s t ∧
      BusAfter [a] [a] [readCall a (memRead a s).1 s, writeCall a v (memRead a s).2] s t ∧
      StoredBytes [(a, v)] s t ∧ FlagsAre z' n' h' c' t ∧ Costs i cost s t := by
  obtain ⟨regs, sp, pc, -, modes, -⟩ := (memRead_accessFrame a s).trans (memWrite_accessFrame a v (memRead a s).2)
  have hregs : SameRegsBut [] s ((memWrite a v (memRead a s).2).setFlags z n h c d) := fun r hr =>
    (State.reg_setFlags _ r z n h c d).trans (regs r hr)
  exact ⟨_, hexec, hregs.chargeBase op, sp, pc, modes, readModifyWrite_busAfter a v s,
    (readModifyWrite_storedBytes a v s).then_mem rfl, hflags, .of_chargeBase hencode hop (by simp) (by simp)⟩

end Effects

/-! ## The opcodes of the two families (R111, R333) -/

theorem inc_reg_opcode (r : Reg8) :
    encode (Group.inc (.reg r)) = [BitVec.ofNat 8 (0x04 + 8 * r.code)] ∧
      Unconditional (BitVec.ofNat 8 (0x04 + 8 * r.code)) 4 := by
  cases r <;> decide

theorem dec_reg_opcode (r : Reg8) :
    encode (Group.dec (.reg r)) = [BitVec.ofNat 8 (0x05 + 8 * r.code)] ∧
      Unconditional (BitVec.ofNat 8 (0x05 + 8 * r.code)) 4 := by
  cases r <;> decide

/-! ## The statements -/

/-- Settles O21: one register is written, and the carry that the flags keep is the one before that write. -/
theorem incDecRegister : Obligations.IncDecRegister := by
  intro r s
  obtain ⟨hinc, hincOp⟩ := inc_reg_opcode r
  obtain ⟨hdec, hdecOp⟩ := dec_reg_opcode r
  have hincFlags := incFlags_flags (s.reg r) (s.setReg r (s.reg r + 1))
  have hdecFlags := decFlags_flags (s.reg r) (s.setReg r (s.reg r - 1))
  rw [State.setReg_fC] at hincFlags hdecFlags
  exact ⟨⟨hinc, setReg_setFlags_effect hinc hincOp (exec_inc_reg s r) hincFlags⟩,
    hdec, setReg_setFlags_effect hdec hdecOp (exec_dec_reg s r) hdecFlags⟩

/-- Settles O22: a read and a write at HL, which leave the carry, and then the flags of the value read. -/
theorem incDecMemory : Obligations.IncDecMemory := by
  intro s
  have hincFlags := incFlags_flags (memRead s.hl s).1 (memWrite s.hl ((memRead s.hl s).1 + 1) (memRead s.hl s).2)
  have hdecFlags := decFlags_flags (memRead s.hl s).1 (memWrite s.hl ((memRead s.hl s).1 - 1) (memRead s.hl s).2)
  rw [memWrite_fC, memRead_fC] at hincFlags hdecFlags
  exact ⟨⟨rfl, readModifyWrite_setFlags_effect rfl (by decide) (exec_inc_mHL s) hincFlags⟩,
    rfl, readModifyWrite_setFlags_effect rfl (by decide) (exec_dec_mHL s) hdecFlags⟩

end Sys2Proof.Machine
end

section
/-! PROOFS. The 8-bit arithmetic and logic group (R181 to R189): every operation is one write of A and of the flags, as the
rule gives them over the integers, from a second operand that is a register, an immediate or a byte read at HL. -/

namespace Sys2Proof.Machine

/-! ## A result of zero -/

/-- R180: the truncated sum is 0. -/
theorem add8_res_beq_zero (a b : Byte) (c : Bool) :
    ((add8 a b c).res == 0) = decide ((a.toNat + b.toNat + c.toNat) % 256 = 0) := by
  rw [beq_eq_decide, decide_eq_decide, ← BitVec.toNat_inj]
  rfl

/-- R180: the truncated difference is 0. -/
theorem sub8_res_beq_zero (a b : Byte) (c : Bool) : ((sub8 a b c).res == 0) = decide (a = b + bitByte c) := by
  rw [beq_eq_decide, decide_eq_decide, sub8_res, sub_sub]
  exact sub_eq_zero

/-! ## The operations as one write of A and of the flags -/

/-- R181, R182. -/
theorem aluAdd_eq (v : Byte) (cin : Bool) (s : State) : aluAdd v cin s =
    (s.setReg .a (s.a + v + bitByte cin)).setFlags (decide ((s.a.toNat + v.toNat + cin.toNat) % 256 = 0)) false
      (decide (15 < s.a.toNat % 16 + v.toNat % 16 + cin.toNat)) (decide (255 < s.a.toNat + v.toNat + cin.toNat))
      { nhA := s.a, nhB := v, nhCin := cin, nhRes := s.a + v + bitByte cin, nhSub := false } := by
  rw [← add8_res_beq_zero, ← ofAdd_eq, ← add8_res]
  rfl

/-- R183, R184, R188: the flags of a difference. -/
theorem aluCompare_eq (v : Byte) (cin : Bool) (s : State) : aluCompare v cin s =
    s.setFlags (decide (s.a = v + bitByte cin)) true (decide (s.a.toNat % 16 < v.toNat % 16 + cin.toNat))
      (decide (s.a.toNat < v.toNat + cin.toNat))
      { nhA := s.a, nhB := v, nhCin := cin, nhRes := s.a - v - bitByte cin, nhSub := true } := by
  rw [← sub8_res_beq_zero, ← ofSub_eq]
  rfl

/-- R183, R184. -/
theorem aluSub_eq (v : Byte) (cin : Bool) (s : State) : aluSub v cin s =
    (s.setReg .a (s.a - v - bitByte cin)).setFlags (decide (s.a = v + bitByte cin)) true
      (decide (s.a.toNat % 16 < v.toNat % 16 + cin.toNat)) (decide (s.a.toNat < v.toNat + cin.toNat))
      { nhA := s.a, nhB := v, nhCin := cin, nhRes := s.a - v - bitByte cin, nhSub := true } := by
  rw [aluSub, aluCompare_eq, sub8_res]
  rfl

/-- R181 to R188: the operation does what the rule says over the integers, and nothing else. -/
theorem alu_eq_spec (op : AluOp) (v : Byte) (s : State) : alu op v s =
    (s.setReg .a (aluSpec op s.a v s.fC).1).setFlags (aluSpec op s.a v s.fC).2.1 (aluSpec op s.a v s.fC).2.2.1
      (aluSpec op s.a v s.fC).2.2.2.1 (aluSpec op s.a v s.fC).2.2.2.2 (aluDeferred op s.a v s.fC) := by
  cases op with
  | add => simpa [alu, aluSpec, aluDeferred] using aluAdd_eq v false s
  | adc => exact aluAdd_eq v s.fC s
  | sub => simpa [alu, aluSpec, aluDeferred] using aluSub_eq v false s
  | sbc => exact aluSub_eq v s.fC s
  | cp => simpa [alu, aluSpec, aluDeferred, State.setReg] using aluCompare_eq v false s
  | and =>
    rw [alu, aluLogic, beq_eq_decide]
    rfl
  | xor =>
    have hzero : (s.a ^^^ v == 0) = decide (s.a = v) := by
      rw [beq_eq_decide, decide_eq_decide]
      exact BitVec.xor_eq_zero_iff
    rw [alu, aluLogic, hzero]
    rfl
  | or =>
    have hzero : (s.a ||| v == 0) = decide (s.a = 0 ∧ v = 0) := by
      rw [beq_eq_decide, decide_eq_decide]
      exact BitVec.or_eq_zero_iff
    rw [alu, aluLogic, hzero]
    rfl

/-- R45, R47: the row an operation stores reads as the N and H of its rule. -/
theorem aluDeferred_reads (op : AluOp) (a v : Byte) (c : Bool) :
    (NHFlags.lazyNH (aluDeferred op a v c)).n = (aluSpec op a v c).2.2.1 ∧
      (NHFlags.lazyNH (aluDeferred op a v c)).h = (aluSpec op a v c).2.2.2.1 := by
  cases op <;> exact ⟨rfl, rfl⟩

/-- R181 to R188: the flags of the rule, in both representations of N and H. -/
theorem aluSpec_flags (op : AluOp) (a v : Byte) (c : Bool) (s : State) :
    FlagsAre (aluSpec op a v c).2.1 (aluSpec op a v c).2.2.1 (aluSpec op a v c).2.2.2.1 (aluSpec op a v c).2.2.2.2
      (s.setFlags (aluSpec op a v c).2.1 (aluSpec op a v c).2.2.1 (aluSpec op a v c).2.2.2.1
        (aluSpec op a v c).2.2.2.2 (aluDeferred op a v c)) :=
  setFlags_flags _ _ s (aluDeferred_reads op a v c).1 (aluDeferred_reads op a v c).2

/-! ## A register and the flags written after a read -/

/-- R189: an instruction that reads a byte, and then writes one register and the flags. -/
theorem read_setReg_setFlags_effect {i : Instr} {op : Byte} {operands : List Byte} {cost : Nat} {s : State}
    {z n h c z' n' h' c' : Bool} {d : Deferred} {r : Reg8} {a : Word} {v : Byte}
    (hencode : encode i = op :: operands) (hop : Unconditional op cost)
    (hexec : exec i s = .next ((((memRead a s).2.setReg r v).setFlags z n h c d).chargeBase op))
    (hflags : FlagsAre z' n' h' c' (((memRead a s).2.setReg r v).setFlags z n h c d)) :
    ∃ t, exec i s = .next t ∧ t.reg r = v ∧ SameRegsBut [r] s t ∧ t.sp = s.sp ∧ t.pc = s.pc ∧ SameModes s t ∧
      BusAfter [a] [] [readCall a (memRead a s).1 s] s t ∧ FlagsAre z' n' h' c' t ∧ Costs i cost s t := by
  obtain ⟨regs, sp, pc, -, modes, bus⟩ := (memRead_accessFrame a s).setReg r v
  have hregs : SameRegsBut [r] s (((memRead a s).2.setReg r v).setFlags z n h c d) := fun q hq =>
    (State.reg_setFlags _ q z n h c d).trans (regs q hq)
  exact ⟨_, hexec, by simp, hregs.chargeBase op, sp, pc, modes, bus, hflags,
    .of_chargeBase hencode hop (by simp) (by simp)⟩

/-! ## The opcodes of the three families (R111, R333) -/

theorem alu_reg_opcode (f : AluOp) (r : Reg8) :
    encode (Group.alu f (.reg r)) = [BitVec.ofNat 8 (0x80 + 8 * f.code + r.code)] ∧
      Unconditional (BitVec.ofNat 8 (0x80 + 8 * f.code + r.code)) 4 := by
  cases f <;> cases r <;> decide

theorem aluImm_opcode (f : AluOp) (d8 : Byte) :
    encode (Group.aluImm f d8) = [BitVec.ofNat 8 (0xC6 + 8 * f.code), d8] ∧
      Unconditional (BitVec.ofNat 8 (0xC6 + 8 * f.code)) 8 := by
  cases f <;> exact ⟨rfl, by decide⟩

theorem alu_atHL_opcode (f : AluOp) :
    encode (Group.alu f .atHL) = [BitVec.ofNat 8 (0x86 + 8 * f.code)] ∧
      Unconditional (BitVec.ofNat 8 (0x86 + 8 * f.code)) 8 := by
  cases f <;> decide

/-! ## The statement -/

/-- Settles O24: each form is the operation's one write of A and of the flags, in the memory form after a read, which
leaves A and the carry that the operation starts from. -/
theorem arithmeticLogicGroup : Obligations.ArithmeticLogicGroup := by
  intro op r d8 s
  obtain ⟨hreg, hregOp⟩ := alu_reg_opcode op r
  obtain ⟨himm, himmOp⟩ := aluImm_opcode op d8
  obtain ⟨hmem, hmemOp⟩ := alu_atHL_opcode op
  have hregExec := exec_alu_reg s op r
  have himmExec := exec_aluImm s op d8
  have hmemExec := exec_alu_atHL s op
  rw [aluReg, alu_eq_spec] at hregExec
  rw [aluImm, alu_eq_spec] at himmExec
  rw [aluMem, alu_eq_spec, memRead_a, memRead_fC] at hmemExec
  exact ⟨⟨hreg, setReg_setFlags_effect hreg hregOp hregExec (aluSpec_flags op s.a (s.reg r) s.fC _)⟩,
    ⟨himm, setReg_setFlags_effect himm himmOp himmExec (aluSpec_flags op s.a d8 s.fC _)⟩,
    hmem, read_setReg_setFlags_effect hmem hmemOp hmemExec (aluSpec_flags op s.a (memRead s.hl s).1 s.fC _)⟩

end Sys2Proof.Machine
end

section
/-! PROOFS. ADD HL,rr (R200): the flags of a 16-bit addition are written, and then HL. -/

namespace Sys2Proof.Machine

/-- R111, R333: the opcodes of the family. -/
theorem addHL_opcode (p : Pair) :
    encode (Group.addHL p) = [BitVec.ofNat 8 (0x09 + 16 * p.code)] ∧
      Unconditional (BitVec.ofNat 8 (0x09 + 16 * p.code)) 8 := by
  cases p <;> decide

/-- R200: Z is kept, and H and C are the carries out of bits 11 and 15, in both representations. -/
theorem addHL_flags (p : Pair) (s : State) :
    FlagsAre s.fZ false (decide (0x0FFF < s.hl.toNat % 4096 + (s.pair p).toNat % 4096))
      (decide (0xFFFF < s.hl.toNat + (s.pair p).toNat)) (addHL p s) :=
  setFlags_flags s.fZ (carry16 s.hl (s.pair p)) s (ofAdd16_n s.hl (s.pair p)) (ofAdd16_h s.hl (s.pair p))

/-- R200: the sum is that of the operands before HL is written, so ADD HL,HL doubles HL. -/
theorem addHL_hl (p : Pair) (s : State) : (addHL p s).hl = s.hl + s.pair p := State.hl_setHL _ (s.hl + s.pair p)

theorem addHL_onlyRegs (p : Pair) (s : State) : OnlyRegs [.h, .l] s (addHL p s) :=
  (setFlags_onlyRegs s.fZ false (half16 s.hl (s.pair p)) (carry16 s.hl (s.pair p))
    (Deferred.ofAdd16 s.hl (s.pair p)) s).setHL (s.hl + s.pair p)

/-- Settles O20: the flags, HL and the frame of the operation, which the charge leaves. -/
theorem addToHL : Obligations.AddToHL := by
  intro p s
  obtain ⟨hencode, hop⟩ := addHL_opcode p
  refine ⟨hencode, _, exec_addHL s p, ?_, (addHL_onlyRegs p s).chargeBase _, addHL_flags p s,
    .of_chargeBase hencode hop (addHL_params s p) (addHL_cycles s p)⟩
  rw [State.chargeBase_eq, State.hl_charge, addHL_hl, BitVec.toNat_add]

end Sys2Proof.Machine
end

section
/-! PROOFS. Control transfer (R211 to R222). A jump writes PC, a call pushes PC and writes it, a return pops it; RETI
sets IME besides. A conditional form does the same or nothing. -/

namespace Sys2Proof.Machine

/-! ## What a conditional transfer costs -/

/-- R333, R335: an opcode of the primary map that tests a condition, with its recommended costs. -/
abbrev Conditional (op : Byte) (cc : Cond) (taken untaken : Nat) : Prop :=
  op ≠ 0xCB ∧ conditionOf op = some cc ∧ cyclesPrimary op + takenExtra op = taken ∧ cyclesPrimary op = untaken

/-- R330, R335: an instruction, whatever its operand bytes, that charges such an opcode, as taken when its condition
holds, after an operation that leaves the parameters and the count. -/
theorem Costs.of_chargeTransfer {i : Instr} {op : Byte} {operands : List Byte} {cc : Cond} {taken untaken : Nat}
    {s u : State} {b : Bool} (hencode : encode i = op :: operands) (hop : Conditional op cc taken untaken)
    (hb : s.cond cc = b) (hparams : u.params = s.params) (hcycles : u.cycles = s.cycles) :
    Costs i (if b then taken else untaken) s (u.chargeTransfer op b) := by
  obtain ⟨hcb, hcond, htaken, huntaken⟩ := hop
  have hcost : ∀ base extended extra,
      costIn base extended extra i s = if b then base op + extra op else base op := fun _ _ _ => by
    simp only [costIn, hencode, if_neg hcb, hcond, hb]
  refine .of_tableCost ?_ ((hcost _ _ _).trans (by rw [htaken, huntaken]))
  rw [tableCost, hcost, State.chargeTransfer_eq, State.charge_cycles, hparams, hcycles]

/-! ## The opcodes of the families (R111, R333, R335) -/

theorem jrCond_opcode (cc : Cond) (e : Byte) :
    encode (Group.jrCond cc e) = [BitVec.ofNat 8 (0x20 + 8 * cc.code), e] ∧
      Conditional (BitVec.ofNat 8 (0x20 + 8 * cc.code)) cc 12 8 := by
  cases cc <;> exact ⟨rfl, by decide⟩

theorem jpCond_opcode (cc : Cond) (a16 : Word) :
    encode (Group.jpCond cc a16) = [BitVec.ofNat 8 (0xC2 + 8 * cc.code), lo a16, hi a16] ∧
      Conditional (BitVec.ofNat 8 (0xC2 + 8 * cc.code)) cc 16 12 := by
  cases cc <;> exact ⟨rfl, by decide⟩

theorem callCond_opcode (cc : Cond) (a16 : Word) :
    encode (Group.callCond cc a16) = [BitVec.ofNat 8 (0xC4 + 8 * cc.code), lo a16, hi a16] ∧
      Conditional (BitVec.ofNat 8 (0xC4 + 8 * cc.code)) cc 24 12 := by
  cases cc <;> exact ⟨rfl, by decide⟩

theorem retCond_opcode (cc : Cond) :
    encode (Group.retCond cc) = [BitVec.ofNat 8 (0xC0 + 8 * cc.code)] ∧
      Conditional (BitVec.ofNat 8 (0xC0 + 8 * cc.code)) cc 20 8 := by
  cases cc <;> decide

theorem rst_opcode : ∀ y : Fin 8,
    encode (Group.rst y) = [BitVec.ofNat 8 (0xC7 + 8 * y.val)] ∧
      Unconditional (BitVec.ofNat 8 (0xC7 + 8 * y.val)) 16 := by
  decide

/-! ## The conditional forms, each way -/

section Forms

variable (cc : Cond) (e : Byte) (a16 : Word) (s : State)

/-- R212: PC is written either way, with the target or with itself. -/
theorem jumpRelativeIf_eq_jumpTo :
    jumpRelativeIf cc e s = jumpTo (if s.cond cc then relativeTarget s.pc e else s.pc) s := by
  unfold jumpRelativeIf
  split <;> rfl

/-- R214: PC is written either way, with the target or with itself. -/
theorem jumpIf_eq_jumpTo : jumpIf cc a16 s = jumpTo (if s.cond cc then a16 else s.pc) s := by
  unfold jumpIf
  split <;> rfl

/-- R218: RET leaves IME. -/
theorem popPC_eq_with_ime : popPC s = { popPC s with ime := s.ime } := by
  have hime : (popPC s).ime = s.ime := pop16_ime s
  rw [← hime]

variable {cc s}

theorem exec_callCond_taken (h : s.cond cc = true) : exec (Group.callCond cc a16) s =
    .next ((call a16 s).chargeTransfer (BitVec.ofNat 8 (0xC4 + 8 * cc.code)) true) := by
  rw [exec_callCond, callIf, h, if_pos rfl]

theorem exec_callCond_untaken (h : s.cond cc = false) : exec (Group.callCond cc a16) s =
    .next (s.chargeTransfer (BitVec.ofNat 8 (0xC4 + 8 * cc.code)) false) := by
  rw [exec_callCond, callIf, h, if_neg Bool.false_ne_true]

theorem exec_retCond_taken (h : s.cond cc = true) : exec (Group.retCond cc) s =
    .next ((popPC s).chargeTransfer (BitVec.ofNat 8 (0xC0 + 8 * cc.code)) true) := by
  rw [exec_retCond, returnIf, h, if_pos rfl]

theorem exec_retCond_untaken (h : s.cond cc = false) : exec (Group.retCond cc) s =
    .next (s.chargeTransfer (BitVec.ofNat 8 (0xC0 + 8 * cc.code)) false) := by
  rw [exec_retCond, returnIf, h, if_neg Bool.false_ne_true]

end Forms

/-! ## The effects, whatever the instruction charges -/

section Effects

variable {i : Instr} {n charged : Nat} {s : State}

/-- R217, R219: a transfer that is not taken. -/
theorem untaken_effect (hexec : exec i s = .next (s.charge charged)) (hcosts : Costs i n s (s.charge charged)) :
    ∃ t, exec i s = .next t ∧ OnlyRegs [] s t ∧ SameFlags s t ∧ Costs i n s t :=
  ⟨_, hexec, ⟨fun r _ => State.reg_charge s r charged, rfl, rfl, ⟨rfl, rfl⟩, SameBus.refl s⟩, ⟨rfl, rfl, rfl⟩, hcosts⟩

/-- R211 to R215: an instruction that writes PC alone. -/
theorem jump_effect {target : Word} (hexec : exec i s = .next ((jumpTo target s).charge charged))
    (hcosts : Costs i n s ((jumpTo target s).charge charged)) :
    ∃ t, exec i s = .next t ∧ t.pc = target ∧ SameRegsBut [] s t ∧ t.sp = s.sp ∧ SameFlags s t ∧ SameModes s t ∧
      SameBus s t ∧ Costs i n s t :=
  ⟨_, hexec, rfl, fun r _ => by cases r <;> rfl, rfl, ⟨rfl, rfl, rfl⟩, ⟨rfl, rfl⟩, SameBus.refl s, hcosts⟩

/-- R216, R222: an instruction that pushes PC and then writes it. -/
theorem call_effect {target : Word} (hexec : exec i s = .next ((call target s).charge charged))
    (hcosts : Costs i n s ((call target s).charge charged)) :
    ∃ t, exec i s = .next t ∧ t.pc = target ∧ t.sp = s.sp - 2 ∧
      SameRegsBut [] s t ∧ SameFlags s t ∧ SameModes s t ∧
      BusAfter [s.sp - 1, s.sp - 2] [s.sp - 1, s.sp - 2]
        [writeCall (s.sp - 1) (hi s.pc) s, writeCall (s.sp - 2) (lo s.pc) (memWrite (s.sp - 1) (hi s.pc) s)] s t ∧
      StoredBytes [(s.sp - 1, hi s.pc), (s.sp - 2, lo s.pc)] s t ∧ Costs i n s t := by
  obtain ⟨flags, modes, -⟩ := push16_quiet s.pc s
  have hregs : SameRegsBut [] s ((call target s).charge charged) := fun r _ => by
    rw [← push16_reg s.pc s r]
    cases r <;> rfl
  exact ⟨_, hexec, rfl, push16_sp s.pc s, hregs, flags, modes, push16_busAfter s.pc s,
    (push16_storedBytes s.pc s).then_mem rfl, hcosts⟩

/-- R218, R221: an instruction that pops PC and writes IME. -/
theorem return_effect {ime : Bool} (hexec : exec i s = .next ({ popPC s with ime := ime }.charge charged))
    (hcosts : Costs i n s ({ popPC s with ime := ime }.charge charged)) :
    ∃ t, exec i s = .next t ∧
      t.pc = join (memRead (s.sp + 1) (memRead s.sp s).2).1 (memRead s.sp s).1 ∧ t.sp = s.sp + 2 ∧
      t.ime = ime ∧ t.halted = s.halted ∧ SameRegsBut [] s t ∧ SameFlags s t ∧
      BusAfter [s.sp, s.sp + 1] []
        [readCall s.sp (memRead s.sp s).1 s,
          readCall (s.sp + 1) (memRead (s.sp + 1) (memRead s.sp s).2).1 (memRead s.sp s).2] s t ∧
      Costs i n s t := by
  obtain ⟨flags, ⟨-, halted⟩, -⟩ := pop16_quiet s
  have hregs : SameRegsBut [] s ({ popPC s with ime := ime }.charge charged) := fun r _ => by
    rw [← pop16_reg s r]
    cases r <;> rfl
  exact ⟨_, hexec, pop16_fst s, pop16_sp s, rfl, halted, hregs, flags, pop16_busAfter s, hcosts⟩

end Effects

/-! ## The statements -/

/-- Settles O25: each form writes PC alone; a conditional one that is not taken writes PC with itself. -/
theorem jumps : Obligations.Jumps := by
  intro cc e a16 s f hf
  have htarget : relativeTarget s.pc e = BitVec.ofInt 16 ((s.pc.toNat : Int) + e.toInt) := add_sext16 s.pc e
  obtain ⟨hjr, hjrOp⟩ := jrCond_opcode cc e
  obtain ⟨hjp, hjpOp⟩ := jpCond_opcode cc a16
  have hjrExec := exec_jrCond s cc e
  have hjpExec := exec_jpCond s cc a16
  rw [jumpRelativeIf_eq_jumpTo, htarget] at hjrExec
  rw [jumpIf_eq_jumpTo] at hjpExec
  simp only [List.mem_cons, List.not_mem_nil, or_false] at hf
  rcases hf with rfl | rfl | rfl | rfl | rfl
  · rw [← htarget]
    exact ⟨rfl, jump_effect (n := 12) (exec_jr_e s e) (.of_chargeBase rfl (by decide) rfl rfl)⟩
  · exact ⟨hjr, jump_effect hjrExec (.of_chargeTransfer hjr hjrOp rfl rfl rfl)⟩
  · exact ⟨rfl, jump_effect (n := 16) (exec_jp_a16 s a16) (.of_chargeBase rfl (by decide) rfl rfl)⟩
  · exact ⟨hjp, jump_effect hjpExec (.of_chargeTransfer hjp hjpOp rfl rfl rfl)⟩
  · exact ⟨rfl, jump_effect (n := 4) (exec_jp_mHL s) (.of_chargeBase rfl (by decide) rfl rfl)⟩

/-- Settles O26: CALL, a taken CALL cc and RST are one operation, with their own targets and costs. -/
theorem callsPushReturnAddress : Obligations.CallsPushReturnAddress := by
  intro cc y a16 s
  obtain ⟨hcall, hcallOp⟩ := callCond_opcode cc a16
  obtain ⟨hrst, hrstOp⟩ := rst_opcode y
  refine ⟨fun huntaken => ?_, fun hvector => ?_, fun f hf => ?_⟩
  · exact untaken_effect (exec_callCond_untaken a16 huntaken) (.of_chargeTransfer hcall hcallOp huntaken rfl rfl)
  · rw [← restartAddress_defaultParams, restartAddress, hvector, restartAddress]
  · simp only [List.mem_cons, List.not_mem_nil, or_false] at hf
    rcases hf with rfl | rfl | rfl
    · exact ⟨rfl, fun _ => call_effect (n := 24) (exec_call_a16 s a16)
        (.of_chargeBase rfl (by decide) (call_params s a16) (call_cycles s a16))⟩
    · exact ⟨hcall, fun htaken => call_effect (exec_callCond_taken a16 htaken)
        (.of_chargeTransfer hcall hcallOp htaken (call_params s a16) (call_cycles s a16))⟩
    · exact ⟨hrst, fun _ => call_effect (exec_rst s y)
        (.of_chargeBase hrst hrstOp (restart_params s y) (restart_cycles s y))⟩

/-- Settles O27: RET, a taken RET cc and RETI are one operation, but for IME. -/
theorem returnsPopProgramCounter : Obligations.ReturnsPopProgramCounter := by
  intro cc s
  obtain ⟨hret, hretOp⟩ := retCond_opcode cc
  refine ⟨fun huntaken => ?_, fun f hf => ?_⟩
  · exact untaken_effect (exec_retCond_untaken huntaken) (.of_chargeTransfer hret hretOp huntaken rfl rfl)
  · simp only [List.mem_cons, List.not_mem_nil, or_false] at hf
    rcases hf with rfl | rfl | rfl
    · have hexec := exec_ret s
      rw [popPC_eq_with_ime] at hexec
      exact ⟨rfl, fun _ => return_effect (n := 16) hexec
        (.of_chargeBase rfl (by decide) (popPC_params s) (popPC_cycles s))⟩
    · refine ⟨hret, fun htaken => ?_⟩
      have hexec := exec_retCond_taken htaken
      rw [popPC_eq_with_ime] at hexec
      exact return_effect hexec (.of_chargeTransfer hret hretOp htaken (popPC_params s) (popPC_cycles s))
    · exact ⟨rfl, fun _ => return_effect (n := 16) (exec_reti s)
        (.of_chargeBase rfl (by decide) (returnFromInterrupt_params s) (returnFromInterrupt_cycles s))⟩

end Sys2Proof.Machine
end

section
/-! PROOFS. PUSH and POP (R232 to R235), and the stack discipline of R231. PUSH is two writes; POP is two
reads, and then a write of the pair. What runs between a push and the pop that matches it writes only below the two
pushed bytes, so the pop finds them as they were. -/

namespace Sys2Proof.Machine

/-! ## Writing a pair of the stack instructions -/

section StackPair

variable (p : StackPair) (v : Word) (s : State)

@[simp] theorem setStackPair_sp : (s.setStackPair p v).sp = s.sp := by cases p <;> rfl
@[simp] theorem setStackPair_pc : (s.setStackPair p v).pc = s.pc := by cases p <;> rfl

theorem setStackPair_modes : SameModes s (s.setStackPair p v) := by cases p <;> exact ⟨rfl, rfl⟩

theorem setStackPair_sameBus : SameBus s (s.setStackPair p v) := by cases p <;> exact SameBus.refl s

@[simp] theorem State.stackPair_charge (n : Nat) : (s.charge n).stackPair p = s.stackPair p := by cases p <;> rfl

/-- R39: the low byte of AF is the packed flags. -/
theorem stackPair_af : s.stackPair .af = join s.a s.packFlags := rfl

variable {p}

/-- R32: a pair of registers reads as it was written. -/
theorem stackPair_setStackPair (hp : p ≠ .af) : (s.setStackPair p v).stackPair p = v := by
  cases p with
  | af => exact absurd rfl hp
  | bc => exact State.bc_setBC s v
  | de => exact State.de_setDE s v
  | hl => exact State.hl_setHL s v

/-- R43: AF reads as it was written, but for bits 3 to 0. -/
theorem stackPair_setStackPair_af : (s.setStackPair .af v).stackPair .af = join (hi v) (lo v &&& 0xF0) := by
  rw [stackPair_af, State.setStackPair, packFlags_of_flagsAre (unpackFlags_flags (lo v) _), flagByte_of_bits]
  rfl

theorem hi_stackPair_setStackPair : hi ((s.setStackPair p v).stackPair p) = hi v := by
  by_cases hp : p = .af
  · rw [hp, stackPair_setStackPair_af, hi_join]
  · rw [stackPair_setStackPair v s hp]

theorem stackPair_setStackPair_ne {q : StackPair} (h : q ≠ p) : (s.setStackPair p v).stackPair q = s.stackPair q := by
  cases p <;> cases q <;> trivial

/-- R235: only AF holds A. -/
theorem setStackPair_a (hp : p ≠ .af) : (s.setStackPair p v).a = s.a := by
  cases p with
  | af => exact absurd rfl hp
  | bc | de | hl => rfl

end StackPair

theorem pop16_stackPair (p : StackPair) (s : State) : (pop16 s).2.stackPair p = s.stackPair p := by
  cases p <;>
    simp [State.stackPair, State.bc, State.de, State.hl, State.af, State.packFlags, State.fN, State.fH]

/-- R32: A and the three pairs are the seven registers. -/
theorem sameRegs_iff_stackPairs {s t : State} :
    SameRegsBut [] s t ↔ t.a = s.a ∧ ∀ q, q ≠ .af → t.stackPair q = s.stackPair q := by
  constructor
  · intro h
    have hreg : ∀ r, t.reg r = s.reg r := fun r => h r List.not_mem_nil
    refine ⟨hreg .a, fun q hq => ?_⟩
    cases q with
    | af => exact absurd rfl hq
    | bc => exact congrArg₂ join (hreg .b) (hreg .c)
    | de => exact congrArg₂ join (hreg .d) (hreg .e)
    | hl => exact congrArg₂ join (hreg .h) (hreg .l)
  · rintro ⟨ha, hpair⟩ r -
    have hhalves : ∀ {h l h' l' : Byte}, join h l = join h' l' → h = h' ∧ l = l' := fun heq =>
      ⟨by simpa using congrArg hi heq, by simpa using congrArg lo heq⟩
    obtain ⟨hb, hc⟩ := hhalves (hpair .bc (by decide))
    obtain ⟨hd, he⟩ := hhalves (hpair .de (by decide))
    obtain ⟨hh, hl⟩ := hhalves (hpair .hl (by decide))
    cases r <;> assumption

/-! ## The opcodes of the two families (R111, R333) -/

theorem push_opcode (p : StackPair) :
    encode (Group.push p) = [BitVec.ofNat 8 (0xC5 + 16 * p.code)] ∧
      Unconditional (BitVec.ofNat 8 (0xC5 + 16 * p.code)) 16 := by
  cases p <;> decide

theorem pop_opcode (p : StackPair) :
    encode (Group.pop p) = [BitVec.ofNat 8 (0xC1 + 16 * p.code)] ∧
      Unconditional (BitVec.ofNat 8 (0xC1 + 16 * p.code)) 12 := by
  cases p <;> decide

/-! ## One push and one pop

The two theorems have their names under `Stack`, since `pushPair` and `popPair` are operations of the model. -/

/-- Settles O28: the two writes of a push, which keep the registers, the flags and the modes. -/
theorem Stack.pushPair : Obligations.PushPair := by
  intro p s
  obtain ⟨hencode, hop⟩ := push_opcode p
  obtain ⟨flags, modes, -⟩ := push16_quiet (s.stackPair p) s
  have hregs : SameRegsBut [] s (push16 (s.stackPair p) s) := fun r _ => push16_reg _ s r
  have haf : p = .af → hi (s.stackPair p) = s.a ∧ lo (s.stackPair p) = s.packFlags := by
    rintro rfl
    rw [stackPair_af, hi_join, lo_join]
    exact ⟨rfl, rfl⟩
  exact ⟨hencode, _, exec_push s p, push16_sp _ s, hregs.chargeBase _, push16_pc _ s, flags, modes,
    push16_busAfter _ s, (push16_storedBytes _ s).then_mem rfl, haf,
    .of_chargeBase hencode hop (pushPair_params s p) (pushPair_cycles s p)⟩

theorem popPair_modes (p : StackPair) (s : State) : SameModes s (popPair p s) := by
  obtain ⟨-, ⟨ime, halted⟩, -⟩ := pop16_quiet s
  obtain ⟨ime', halted'⟩ := setStackPair_modes p (pop16 s).1 (pop16 s).2
  exact ⟨ime'.trans ime, halted'.trans halted⟩

/-- R233: only POP AF writes the flags. -/
theorem popPair_flags {p : StackPair} (hp : p ≠ .af) (s : State) : SameFlags s (popPair p s) :=
  ((pop16_quiet s).trans (setStackPair_quiet hp _ _)).1

/-- Settles O29: the two reads of a pop, and then the pair written with the two bytes. -/
theorem Stack.popPair : Obligations.PopPair := by
  intro p s
  obtain ⟨hencode, hop⟩ := pop_opcode p
  have hhi : hi (pop16 s).1 = (memRead (s.sp + 1) (memRead s.sp s).2).1 := by rw [pop16_fst, hi_join]
  have hlo : lo (pop16 s).1 = (memRead s.sp s).1 := by rw [pop16_fst, lo_join]
  have hpairs : ∀ q, ((Machine.popPair p s).chargeBase (BitVec.ofNat 8 (0xC1 + 16 * p.code))).stackPair q =
      ((pop16 s).2.setStackPair p (pop16 s).1).stackPair q := fun q => State.stackPair_charge q _ _
  refine ⟨hencode, _, exec_pop s p, (setStackPair_sp ..).trans (pop16_sp s), (setStackPair_pc ..).trans (pop16_pc s),
    popPair_modes p s, ?_, fun hp => ⟨?_, (setStackPair_a _ _ hp).trans (pop16_a s), popPair_flags hp s⟩, ?_,
    fun q hq _ => ?_, (pop16_busAfter s).then_same (setStackPair_sameBus p _ _),
    .of_chargeBase hencode hop (popPair_params s p) (popPair_cycles s p)⟩
  · rw [hpairs, hi_stackPair_setStackPair, hhi]
  · rw [hpairs, stackPair_setStackPair _ _ hp, hlo]
  · rintro rfl
    have hflags := unpackFlags_flags (lo (pop16 s).1) { (pop16 s).2 with a := hi (pop16 s).1 }
    rw [hpairs, stackPair_setStackPair_af, lo_join, ← hlo]
    exact ⟨hhi, rfl, hflags⟩
  · rw [hpairs, stackPair_setStackPair_ne _ _ hq, pop16_stackPair]

/-! ## Plain stack bytes -/

theorem noDevice_of_isPlain {a b : Word} {s : State} (ha : s.isPlain a) (hb : s.isPlain b) : s.noDevice [a, b] := by
  simp [State.noDevice, ha, hb]

/-- R231: two reads of plain addresses give the two bytes. -/
theorem memRead_memRead_of_isPlain {a b : Word} {s : State} (ha : s.isPlain a) (hb : s.isPlain b) :
    (memRead a s).1 = s.byteAt a ∧ (memRead b (memRead a s).2).1 = s.byteAt b := by
  rw [memRead_of_readable (.inl ha)]
  exact ⟨rfl, congrArg Prod.fst (memRead_of_readable (s := s.log _) (.inl hb))⟩

/-- Bytes at different depths stand at different addresses. -/
theorem sub_ofNat_ne {j k : Nat} (v : Word) (hj : 1 ≤ j) (hjk : j < k) (hk : k ≤ 65536) :
    v - BitVec.ofNat 16 k ≠ v - BitVec.ofNat 16 j := by
  bv_omega

/-! ## Runs of instructions -/

theorem runInstrs_cons {i : Instr} {s t : State} (is : List Instr) (h : exec i s = .next t) :
    runInstrs (i :: is) s = runInstrs is t := by
  rw [runInstrs, h]

theorem runInstrs_append {is : List Instr} {s t : State} (js : List Instr) (h : runInstrs is s = .next t) :
    runInstrs (is ++ js) s = runInstrs js t := by
  induction is generalizing s with
  | nil =>
    obtain rfl : s = t := by simpa [runInstrs] using h
    rfl
  | cons i is ih =>
    obtain ⟨u, hu, -⟩ := exec_frame i s
    rw [List.cons_append, runInstrs_cons _ hu]
    exact ih ((runInstrs_cons is hu).symm.trans h)

/-! ## The stack discipline -/

/-- What a run that writes only the n bytes below SP leaves: the registers but SP, the values of the flags, the modes, the
map, and every byte further below SP. Since addresses wrap, the byte 65536 below SP is the one at SP. -/
structure KeptAround (n : Nat) (s t : State) : Prop where
  regs : SameRegsBut [] s t
  pc : t.pc = s.pc
  flags : FlagsAre s.fZ s.fN s.fH s.fC t
  modes : SameModes s t
  map : t.busMap = s.busMap
  bytes : ∀ k, n < k → k ≤ 65536 → t.byteAt (s.sp - BitVec.ofNat 16 k) = s.byteAt (s.sp - BitVec.ofNat 16 k)

theorem KeptAround.refl (s : State) : KeptAround 0 s s :=
  ⟨fun _ _ => rfl, rfl, ⟨rfl, rfl, rfl, rfl⟩, ⟨rfl, rfl⟩, rfl, fun _ _ _ => rfl⟩

/-- The byte k below the SP that a push leaves is k + 2 below the SP it started from. -/
theorem sub_two_sub_ofNat (v : Word) (k : Nat) : v - 2 - BitVec.ofNat 16 k = v - BitVec.ofNat 16 (k + 2) := by
  bv_omega

/-- A push, and then a run from where it leaves SP. -/
theorem KeptAround.trans {n : Nat} {s t u : State} (h : KeptAround 2 s t) (hsp : t.sp = s.sp - 2)
    (h' : KeptAround n t u) : KeptAround (n + 2) s u := by
  obtain ⟨ime, halted⟩ := h.modes
  obtain ⟨ime', halted'⟩ := h'.modes
  have hflags : FlagsAre s.fZ s.fN s.fH s.fC u := by
    obtain ⟨z, n, h, c⟩ := h.flags
    rw [← z, ← n, ← h, ← c]
    exact h'.flags
  refine ⟨fun r hr => (h'.regs r hr).trans (h.regs r hr), h'.pc.trans h.pc, hflags,
    ⟨ime'.trans ime, halted'.trans halted⟩, h'.map.trans h.map, fun k hk hmax => ?_⟩
  obtain ⟨j, rfl⟩ : ∃ j, k = j + 2 := ⟨k - 2, by omega⟩
  have hrun := h'.bytes j (by omega) (by omega)
  rw [hsp, sub_two_sub_ofNat] at hrun
  exact hrun.trans (h.bytes _ (by omega) hmax)

/-- The word that the next pop reads is v, in plain bytes. -/
structure OnTop (v : Word) (s : State) : Prop where
  lowPlain : s.isPlain s.sp
  highPlain : s.isPlain (s.sp + 1)
  low : s.byteAt s.sp = lo v
  high : s.byteAt (s.sp + 1) = hi v

/-- A run that comes back to SP, over so few bytes that it does not reach around to the word there, keeps the word. -/
theorem OnTop.of_keptAround {v : Word} {n : Nat} {s t : State} (h : OnTop v s) (hkept : KeptAround n s t)
    (hsp : t.sp = s.sp) (hn : n + 2 ≤ 65536) : OnTop v t := by
  have hlow : s.sp - BitVec.ofNat 16 65536 = s.sp := by bv_omega
  have hhigh : s.sp - BitVec.ofNat 16 65535 = s.sp + 1 := by bv_omega
  have keptLow := hkept.bytes 65536 (by omega) (by omega)
  have keptHigh := hkept.bytes 65535 (by omega) (by omega)
  rw [hlow] at keptLow
  rw [hhigh] at keptHigh
  constructor <;> simp only [State.isPlain, hsp, kindAt_of_busMap hkept.map, keptLow, keptHigh]
  exacts [h.lowPlain, h.highPlain, h.low, h.high]

/-- R230: a push onto plain bytes leaves the pair on top, and keeps the rest. -/
theorem push_keeps (p : StackPair) {s : State} (hs : s.Inv) (h1 : s.isPlain (s.sp - 1)) (h2 : s.isPlain (s.sp - 2)) :
    ∃ t, exec (Group.push p) s = .next t ∧ t.Inv ∧ t.sp = s.sp - 2 ∧ KeptAround 2 s t ∧ OnTop (s.stackPair p) t := by
  obtain ⟨-, t, hexec, hsp, regs, pc, flags, modes, ⟨-, bus⟩, stored, -, -⟩ := Stack.pushPair p s
  have hdevice : s.noDevice [s.sp - 1, s.sp - 2] := noDevice_of_isPlain h1 h2
  obtain ⟨bytes, map, -⟩ := bus hdevice
  have hstored := stored hs.mem hdevice
  have hkept : KeptAround 2 s t := by
    refine ⟨regs, pc, FlagsAre.congr ⟨rfl, rfl, rfl, rfl⟩ flags, modes, map, fun k hk hmax => bytes _ ?_⟩
    simp only [List.mem_cons, List.not_mem_nil, or_false, not_or]
    exact ⟨sub_ofNat_ne (j := 1) s.sp (by omega) (by omega) hmax, sub_ofNat_ne (j := 2) s.sp (by omega) hk hmax⟩
  have htop : OnTop (s.stackPair p) t := by
    have hnext : s.sp - 2 + 1 = s.sp - 1 := by bv_omega
    constructor <;> simp only [State.isPlain, hsp, hnext, kindAt_of_busMap map]
    · exact h2
    · exact h1
    · exact (hstored (s.sp - 2, lo (s.stackPair p)) (by simp)).trans (if_pos h2)
    · exact (hstored (s.sp - 1, hi (s.stackPair p)) (by simp)).trans (if_pos h1)
  exact ⟨t, hexec, exec_keeps_inv hs hexec, hsp, hkept, htop⟩

/-- R231, R235: a pop of what a pair of s held writes the registers and the flags of s again. -/
theorem pop_restores {p : StackPair} {n : Nat} {s t : State} (h : KeptAround n s t) (htop : OnTop (s.stackPair p) t) :
    ∃ u, exec (Group.pop p) t = .next u ∧ u.sp = t.sp + 2 ∧ KeptAround n s u := by
  obtain ⟨-, u, hexec, husp, pc, ⟨ime, halted⟩, uhi, uother, uaf, others, ⟨-, bus⟩, -⟩ := Stack.popPair p t
  obtain ⟨bytes, map, -⟩ := bus (noDevice_of_isPlain htop.lowPlain htop.highPlain)
  obtain ⟨readLow, readHigh⟩ := memRead_memRead_of_isPlain htop.lowPlain htop.highPlain
  rw [readHigh, htop.high] at uhi uaf
  rw [readLow, htop.low] at uother uaf
  obtain ⟨ta, tpairs⟩ := sameRegs_iff_stackPairs.mp h.regs
  have hregs : u.a = s.a ∧ (∀ q, q ≠ .af → u.stackPair q = s.stackPair q) ∧ FlagsAre s.fZ s.fN s.fH s.fC u := by
    by_cases hp : p = .af
    · subst hp
      obtain ⟨ua, -, uflags⟩ := uaf rfl
      obtain ⟨hz, hn, hh, hc⟩ := flagByte_bits s.fZ s.fN s.fH s.fC
      rw [stackPair_af, lo_join, packFlags_of_flagsAre ⟨rfl, rfl, rfl, rfl⟩, hz, hn, hh, hc] at uflags
      exact ⟨ua.trans (hi_join ..), fun q hq => (others q hq hq).trans (tpairs q hq), uflags⟩
    · obtain ⟨ulo, ua, uflags⟩ := uother hp
      refine ⟨ua.trans ta, fun q hq => ?_, FlagsAre.congr h.flags uflags⟩
      by_cases hqp : q = p
      · rw [hqp, ← join_hi_lo (u.stackPair p), uhi, ulo, join_hi_lo]
      · exact (others q hqp hq).trans (tpairs q hq)
  obtain ⟨ua, upairs, uflags⟩ := hregs
  exact ⟨u, hexec, husp, sameRegs_iff_stackPairs.mpr ⟨ua, upairs⟩, pc.trans h.pc, uflags,
    ⟨ime.trans h.modes.1, halted.trans h.modes.2⟩, map.trans h.map,
    fun k hk hmax => (bytes _ List.not_mem_nil).trans (h.bytes k hk hmax)⟩

/-- R231, by induction on the pairs: the first push and the last pop enclose a run that keeps their two bytes. -/
theorem pushes_pops_keep (ps : List StackPair) {s : State} (hs : s.Inv) (hlen : 2 * ps.length ≤ 65536)
    (hplain : ∀ k, 1 ≤ k → k ≤ 2 * ps.length → s.isPlain (s.sp - BitVec.ofNat 16 k)) :
    ∃ t, runInstrs (ps.map Group.push ++ ps.reverse.map Group.pop) s = .next t ∧ t.sp = s.sp ∧
      KeptAround (2 * ps.length) s t := by
  induction ps generalizing s with
  | nil => exact ⟨s, rfl, rfl, KeptAround.refl s⟩
  | cons p ps ih =>
    have hshape : (p :: ps).map Group.push ++ (p :: ps).reverse.map Group.pop =
        Group.push p :: ((ps.map Group.push ++ ps.reverse.map Group.pop) ++ [Group.pop p]) := by simp
    rw [hshape]
    rw [List.length_cons, Nat.mul_succ] at hlen hplain ⊢
    obtain ⟨t, hpush, hinv, tsp, tkept, ttop⟩ :=
      push_keeps p hs (hplain 1 (by omega) (by omega)) (hplain 2 (by omega) (by omega))
    have hplain' : ∀ k, 1 ≤ k → k ≤ 2 * ps.length → t.isPlain (t.sp - BitVec.ofNat 16 k) := fun k hk hmax => by
      rw [State.isPlain, kindAt_of_busMap tkept.map, tsp, sub_two_sub_ofNat]
      exact hplain (k + 2) (by omega) (by omega)
    obtain ⟨u, hrun, usp, ukept⟩ := ih hinv (by omega) hplain'
    obtain ⟨v, hpop, vsp, vkept⟩ := pop_restores (tkept.trans tsp ukept) (ttop.of_keptAround ukept usp hlen)
    have hsp : v.sp = s.sp := by
      rw [vsp, usp, tsp]
      bv_omega
    exact ⟨v, by rw [runInstrs_cons _ hpush, runInstrs_append _ hrun, runInstrs_cons _ hpop, runInstrs], hsp, vkept⟩

/-- Settles O30: the run of the pairs keeps all but the bytes below SP. -/
theorem pushesThenPopsRestore : Obligations.PushesThenPopsRestore := by
  intro ps s hs hlen hplain
  obtain ⟨t, hrun, sp, kept⟩ := pushes_pops_keep ps hs hlen hplain
  exact ⟨t, hrun, kept.regs, sp, kept.pc, kept.flags, kept.modes⟩

end Sys2Proof.Machine
end

section
/-! PROOFS. The prefixed group (R241 to R253) and the accumulator rotates (R260 to R263): one operand is read, in a
register or at HL, what the rule makes of it is written back, and the flags are written. -/

namespace Sys2Proof.Machine

/-! ## The results over the integers -/

section Results

variable (v : Byte) (b : Bool)

theorem getLsbD_seven : v.getLsbD 7 = decide (128 ≤ v.toNat) := BitVec.msb_eq_decide v

theorem getLsbD_zero : v.getLsbD 0 = decide (v.toNat % 2 = 1) := by rw [BitVec.getLsbD, Nat.testBit_zero]

theorem toNat_decide_128_le : (decide (128 ≤ v.toNat)).toNat = v.toNat / 128 := by
  have := v.isLt
  by_cases h : 128 ≤ v.toNat
  · rw [decide_eq_true h, Bool.toNat_true]
    omega
  · rw [decide_eq_false h, Bool.toNat_false]
    omega

theorem toNat_decide_odd : (decide (v.toNat % 2 = 1)).toNat = v.toNat % 2 := by
  by_cases h : v.toNat % 2 = 1
  · rw [decide_eq_true h, Bool.toNat_true, h]
  · rw [decide_eq_false h, Bool.toNat_false]
    omega

/-- R20: a bit moved in on the right. -/
theorem toNat_shiftLeft_add : ((v <<< 1) + bitByte b).toNat = v.toNat * 2 % 256 + b.toNat := by
  cases b with
  | false => simp [bitByte, Nat.shiftLeft_eq]
  | true =>
    simp [bitByte, Nat.shiftLeft_eq]
    omega

/-- A bit moved in on the left. -/
theorem toNat_shiftRight_add : ((v >>> 1) + bitByte b * 0x80).toNat = v.toNat / 2 + b.toNat * 128 := by
  have := v.isLt
  cases b with
  | false => simp [bitByte, Nat.shiftRight_eq_div_pow]
  | true =>
    simp [bitByte, Nat.shiftRight_eq_div_pow]
    omega

end Results

/-- R243 to R250: the byte-wise results, over the integers. -/
theorem rotateResult_eq_spec (op : RotOp) (v : Byte) (c : Bool) :
    (rotateResult op v c).1.toNat = (rotSpec op v c).1 ∧ (rotateResult op v c).2 = (rotSpec op v c).2 := by
  cases op with
  | rlc =>
    exact ⟨by rw [rotateResult, toNat_shiftLeft_add, getLsbD_seven, toNat_decide_128_le, rotSpec], getLsbD_seven v⟩
  | rrc => exact ⟨by rw [rotateResult, toNat_shiftRight_add, getLsbD_zero, toNat_decide_odd, rotSpec], getLsbD_zero v⟩
  | rl => exact ⟨toNat_shiftLeft_add v c, getLsbD_seven v⟩
  | rr => exact ⟨toNat_shiftRight_add v c, getLsbD_zero v⟩
  | sla => exact ⟨by simp [rotateResult, rotSpec, Nat.shiftLeft_eq], getLsbD_seven v⟩
  | sra =>
    exact ⟨by rw [rotateResult, toNat_shiftRight_add, getLsbD_seven, toNat_decide_128_le, rotSpec], getLsbD_zero v⟩
  | swap =>
    refine ⟨?_, rfl⟩
    simp [rotateResult, rotSpec, Nat.shiftLeft_eq, Nat.shiftRight_eq_div_pow]
    omega
  | srl => exact ⟨by simp [rotateResult, rotSpec, Nat.shiftRight_eq_div_pow], getLsbD_zero v⟩

/-- R243 to R250: Z is that of the number the rule gives. -/
theorem rotateResult_beq_zero (op : RotOp) (v : Byte) (c : Bool) :
    ((rotateResult op v c).1 == 0) = decide ((rotSpec op v c).1 = 0) := by
  rw [beq_eq_decide, decide_eq_decide, ← (rotateResult_eq_spec op v c).1, ← BitVec.toNat_inj]
  rfl

/-- R251: the complement of a bit. -/
theorem not_getLsbD_eq_decide (v : Byte) (b : Nat) : (!v.getLsbD b) = decide (v.toNat / 2 ^ b % 2 = 0) := by
  rw [BitVec.getLsbD, Nat.testBit_eq_decide_div_mod_eq, ← decide_not, decide_eq_decide]
  omega

theorem getLsbD_shiftLeft_one {k : Nat} (b : Nat) (hk : k < 8) : (1#8 <<< b).getLsbD k = decide (k = b) := by
  rw [← BitVec.twoPow_eq, BitVec.getLsbD_twoPow, ← Bool.decide_and, decide_eq_decide]
  omega

/-- R252: the bits of a byte with bit b cleared. -/
theorem getLsbD_reset (v : Byte) (b : Nat) : ∀ k < 8,
    (v &&& (0xFF - (1#8 <<< b))).getLsbD k = if k = b then false else v.getLsbD k := by
  intro k hk
  have hnot : (0xFF : Byte) - (1#8 <<< b) = ~~~(1#8 <<< b) := BitVec.allOnes_sub_eq_not _
  rw [hnot, BitVec.getLsbD_and, BitVec.getLsbD_not, getLsbD_shiftLeft_one b hk]
  by_cases h : k = b <;> simp [h, hk]

/-- R253: the bits of a byte with bit b set. -/
theorem getLsbD_set (v : Byte) (b : Nat) : ∀ k < 8,
    (v ||| (1#8 <<< b)).getLsbD k = if k = b then true else v.getLsbD k := by
  intro k hk
  rw [BitVec.getLsbD_or, getLsbD_shiftLeft_one b hk]
  by_cases h : k = b <;> simp [h]

/-! ## What is left besides the operand and the flags -/

theorem OnlyRegs.charge {changed : List Reg8} {s t : State} (h : OnlyRegs changed s t) (n : Nat) :
    OnlyRegs changed s (t.charge n) := by
  obtain ⟨regs, rest⟩ := h
  exact ⟨fun r hr => (State.reg_charge t r n).trans (regs r hr), rest⟩

theorem readModifyWrite_accessFrame (a : Word) (v : Byte) (s : State) :
    AccessFrame [] [a] [a] [readCall a (memRead a s).1 s, writeCall a v (memRead a s).2] s
      (memWrite a v (memRead a s).2) := by
  obtain ⟨regs, sp, pc, flags, modes, -⟩ := (memRead_accessFrame a s).trans (memWrite_accessFrame a v (memRead a s).2)
  exact ⟨regs, sp, pc, flags, modes, readModifyWrite_busAfter a v s⟩

/-! ## The operations on a register and at HL -/

section Operations

variable (op : RotOp) (b : Fin 8) (s : State)

theorem rotate_reg_eq (r : Reg8) : rotate op (.reg r) s =
    (s.setReg r (rotateResult op (s.reg r) s.fC).1).setConstFlags (decide ((rotSpec op (s.reg r) s.fC).1 = 0)) false
      false (rotSpec op (s.reg r) s.fC).2 := by
  rw [← rotateResult_beq_zero, ← (rotateResult_eq_spec op _ _).2]
  rfl

theorem rotate_atHL_eq : rotate op .atHL s =
    (memWrite s.hl (rotateResult op (memRead s.hl s).1 s.fC).1 (memRead s.hl s).2).setConstFlags
      (decide ((rotSpec op (memRead s.hl s).1 s.fC).1 = 0)) false false (rotSpec op (memRead s.hl s).1 s.fC).2 := by
  rw [← rotateResult_beq_zero, ← (rotateResult_eq_spec op _ _).2]
  simp only [rotate, State.readOperand, State.writeOperand, memRead_hl, memRead_fC]

theorem testBit_reg_eq (r : Reg8) : testBit b (.reg r) s =
    s.setConstFlags (decide ((s.reg r).toNat / 2 ^ b.val % 2 = 0)) false true s.fC := by
  rw [← not_getLsbD_eq_decide]
  rfl

theorem testBit_atHL_eq : testBit b .atHL s = (memRead s.hl s).2.setConstFlags
    (decide ((memRead s.hl s).1.toNat / 2 ^ b.val % 2 = 0)) false true s.fC := by
  rw [← not_getLsbD_eq_decide]
  simp only [testBit, State.readOperand, memRead_fC]

theorem resetBit_atHL_eq : resetBit b .atHL s =
    memWrite s.hl ((memRead s.hl s).1 &&& (0xFF - (1#8 <<< b.val))) (memRead s.hl s).2 := by
  simp only [resetBit, State.readOperand, State.writeOperand, memRead_hl]

theorem setBit_atHL_eq : setBit b .atHL s =
    memWrite s.hl ((memRead s.hl s).1 ||| (1#8 <<< b.val)) (memRead s.hl s).2 := by
  simp only [setBit, State.readOperand, State.writeOperand, memRead_hl]

end Operations

/-! ## Costs and opcodes (R115, R334) -/

/-- R330, R334: a prefixed instruction that charges the cost of its second byte after an operation that leaves the
parameters and the count. -/
theorem Costs.of_chargeExtended {i : Instr} {op2 : Byte} {n : Nat} {s u : State} (hencode : encode i = [0xCB, op2])
    (hn : cyclesExtended op2 = n) (hparams : u.params = s.params) (hcycles : u.cycles = s.cycles) :
    Costs i n s (u.chargeExtended op2) := by
  have hcost : ∀ base extended taken, costIn base extended taken i s = extended op2 := fun _ _ _ => by
    simp only [costIn, hencode, if_pos, List.headD_cons]
  refine .of_tableCost ?_ ((hcost _ _ _).trans hn)
  rw [tableCost, hcost, State.chargeExtended_eq, State.charge_cycles, hparams, hcycles]

theorem rotate_reg_opcode (op : RotOp) (r : Reg8) :
    encode (Group.rotate op (.reg r)) = [0xCB, BitVec.ofNat 8 (8 * op.code + r.code)] ∧
      cyclesExtended (BitVec.ofNat 8 (8 * op.code + r.code)) = 8 := by
  cases op <;> cases r <;> decide

theorem rotate_atHL_opcode (op : RotOp) :
    encode (Group.rotate op .atHL) = [0xCB, BitVec.ofNat 8 (0x06 + 8 * op.code)] ∧
      cyclesExtended (BitVec.ofNat 8 (0x06 + 8 * op.code)) = 16 := by
  cases op <;> decide

theorem bit_reg_opcode (b : Fin 8) (r : Reg8) :
    encode (Group.bit b (.reg r)) = [0xCB, BitVec.ofNat 8 (0x40 + 8 * b.val + r.code)] ∧
      cyclesExtended (BitVec.ofNat 8 (0x40 + 8 * b.val + r.code)) = 8 := by
  revert b
  cases r <;> decide

theorem bit_atHL_opcode : ∀ b : Fin 8,
    encode (Group.bit b .atHL) = [0xCB, BitVec.ofNat 8 (0x46 + 8 * b.val)] ∧
      cyclesExtended (BitVec.ofNat 8 (0x46 + 8 * b.val)) = 12 := by
  decide

theorem res_reg_opcode (b : Fin 8) (r : Reg8) :
    encode (Group.res b (.reg r)) = [0xCB, BitVec.ofNat 8 (0x80 + 8 * b.val + r.code)] ∧
      cyclesExtended (BitVec.ofNat 8 (0x80 + 8 * b.val + r.code)) = 8 := by
  revert b
  cases r <;> decide

theorem res_atHL_opcode : ∀ b : Fin 8,
    encode (Group.res b .atHL) = [0xCB, BitVec.ofNat 8 (0x86 + 8 * b.val)] ∧
      cyclesExtended (BitVec.ofNat 8 (0x86 + 8 * b.val)) = 16 := by
  decide

theorem set_reg_opcode (b : Fin 8) (r : Reg8) :
    encode (Group.set b (.reg r)) = [0xCB, BitVec.ofNat 8 (0xC0 + 8 * b.val + r.code)] ∧
      cyclesExtended (BitVec.ofNat 8 (0xC0 + 8 * b.val + r.code)) = 8 := by
  revert b
  cases r <;> decide

theorem set_atHL_opcode : ∀ b : Fin 8,
    encode (Group.set b .atHL) = [0xCB, BitVec.ofNat 8 (0xC6 + 8 * b.val)] ∧
      cyclesExtended (BitVec.ofNat 8 (0xC6 + 8 * b.val)) = 16 := by
  decide

/-- R115: the operand at HL has the number 6. -/
theorem add_code_atHL (m n : Nat) : m + n + Operand8.code .atHL = m + 6 + n := Nat.add_right_comm m n 6

/-! ## The statements -/

/-- Settles O31: the result of the rule is written where the operand was read, and then the flags. -/
theorem rotatesAndShifts : Obligations.RotatesAndShifts := by
  intro op r s
  obtain ⟨hreg, hregCost⟩ := rotate_reg_opcode op r
  obtain ⟨hmem, hmemCost⟩ := rotate_atHL_opcode op
  obtain ⟨hregResult, -⟩ := rotateResult_eq_spec op (s.reg r) s.fC
  obtain ⟨hmemResult, -⟩ := rotateResult_eq_spec op (memRead s.hl s).1 s.fC
  have hregExec := exec_rotate s op (.reg r)
  have hmemExec := exec_rotate s op .atHL
  rw [rotate_reg_eq] at hregExec
  rw [rotate_atHL_eq, Nat.add_comm] at hmemExec
  generalize (rotateResult op (memRead s.hl s).1 s.fC).1 = res at hmemResult hmemExec
  obtain ⟨-, sp, pc, -, modes, bus⟩ := readModifyWrite_accessFrame s.hl res s
  exact ⟨⟨hreg, _, hregExec, by simpa using hregResult, ((setReg_onlyRegs r _ s).setFlags ..).charge _,
      setConstFlags_flags .., .of_chargeExtended hreg hregCost (by simp) (by simp)⟩,
    hmem, _, res, hmemExec, hmemResult, fun q _ => by simp, sp, pc, modes, bus,
    (readModifyWrite_storedBytes s.hl res s).then_mem rfl, setConstFlags_flags ..,
    .of_chargeExtended hmem hmemCost (by simp) (by simp)⟩

/-- Settles O32: the flags are written, in the memory form after one read, which leaves the carry. -/
theorem bitTests : Obligations.BitTests := by
  intro b r s
  obtain ⟨hreg, hregCost⟩ := bit_reg_opcode b r
  obtain ⟨hmem, hmemCost⟩ := bit_atHL_opcode b
  have hregExec := exec_bit s b (.reg r)
  have hmemExec := exec_bit s b .atHL
  rw [testBit_reg_eq] at hregExec
  rw [testBit_atHL_eq, add_code_atHL] at hmemExec
  obtain ⟨-, sp, pc, -, modes, bus⟩ := memRead_accessFrame s.hl s
  exact ⟨⟨hreg, _, hregExec, (setFlags_onlyRegs ..).charge _, setConstFlags_flags ..,
      .of_chargeExtended hreg hregCost rfl rfl⟩,
    hmem, _, hmemExec, fun q _ => by simp, sp, pc, modes, bus, setConstFlags_flags ..,
    .of_chargeExtended hmem hmemCost (by simp) (by simp)⟩

/-- R252, R253: an instruction that writes its operand register with one bit changed. -/
theorem bitWrite_reg_effect {i : Instr} {op2 : Byte} {b : Fin 8} {bit : Bool} {r : Reg8} {v : Byte} {s : State}
    (hencode : encode i = [0xCB, op2]) (hcost : cyclesExtended op2 = 8)
    (hexec : exec i s = .next ((s.setReg r v).chargeExtended op2))
    (hbits : ∀ k < 8, v.getLsbD k = if k = b.val then bit else (s.reg r).getLsbD k) :
    ∃ t, exec i s = .next t ∧ (∀ k < 8, (t.reg r).getLsbD k = if k = b.val then bit else (s.reg r).getLsbD k) ∧
      OnlyRegs [r] s t ∧ SameFlags s t ∧ Costs i 8 s t := by
  obtain ⟨flags, -, -⟩ := setReg_quiet r v s
  exact ⟨_, hexec, by simpa using hbits, (setReg_onlyRegs r v s).charge _, flags,
    .of_chargeExtended hencode hcost (by simp) (by simp)⟩

/-- R252, R253: an instruction that writes the byte at HL back with one bit changed. -/
theorem bitWrite_atHL_effect {i : Instr} {op2 : Byte} {b : Fin 8} {bit : Bool} {v : Byte} {s : State}
    (hencode : encode i = [0xCB, op2]) (hcost : cyclesExtended op2 = 16)
    (hexec : exec i s = .next ((memWrite s.hl v (memRead s.hl s).2).chargeExtended op2))
    (hbits : ∀ k < 8, v.getLsbD k = if k = b.val then bit else (memRead s.hl s).1.getLsbD k) :
    ∃ (t : State) (res : Byte), exec i s = .next t ∧
      (∀ k < 8, res.getLsbD k = if k = b.val then bit else (memRead s.hl s).1.getLsbD k) ∧
      SameRegsBut [] s t ∧ t.sp = s.sp ∧ t.pc = s.pc ∧ SameFlags s t ∧ SameModes s t ∧
      BusAfter [s.hl] [s.hl] [readCall s.hl (memRead s.hl s).1 s, writeCall s.hl res (memRead s.hl s).2] s t ∧
      StoredBytes [(s.hl, res)] s t ∧ Costs i 16 s t := by
  obtain ⟨-, sp, pc, flags, modes, bus⟩ := readModifyWrite_accessFrame s.hl v s
  exact ⟨_, v, hexec, hbits, fun q _ => by simp, sp, pc, flags, modes, bus,
    (readModifyWrite_storedBytes s.hl v s).then_mem rfl, .of_chargeExtended hencode hcost (by simp) (by simp)⟩

/-- Settles O33: RES and SET write their operand back with one bit changed. -/
theorem bitWrites : Obligations.BitWrites := by
  intro b r s
  refine ⟨fun f hf => ?_, fun f hf => ?_⟩ <;> simp only [List.mem_cons, List.not_mem_nil, or_false] at hf
  · rcases hf with rfl | rfl
    · obtain ⟨hencode, hcost⟩ := res_reg_opcode b r
      exact ⟨hencode, bitWrite_reg_effect hencode hcost (exec_res s b (.reg r)) (getLsbD_reset (s.reg r) b)⟩
    · obtain ⟨hencode, hcost⟩ := set_reg_opcode b r
      exact ⟨hencode, bitWrite_reg_effect hencode hcost (exec_set s b (.reg r)) (getLsbD_set (s.reg r) b)⟩
  · rcases hf with rfl | rfl
    · obtain ⟨hencode, hcost⟩ := res_atHL_opcode b
      have hexec := exec_res s b .atHL
      rw [resetBit_atHL_eq, add_code_atHL] at hexec
      exact ⟨hencode, bitWrite_atHL_effect hencode hcost hexec (getLsbD_reset (memRead s.hl s).1 b)⟩
    · obtain ⟨hencode, hcost⟩ := set_atHL_opcode b
      have hexec := exec_set s b .atHL
      rw [setBit_atHL_eq, add_code_atHL] at hexec
      exact ⟨hencode, bitWrite_atHL_effect hencode hcost hexec (getLsbD_set (memRead s.hl s).1 b)⟩

/-! ## The accumulator rotates -/

theorem rotateA_eq (op : RotOp) (s : State) : rotateA op s =
    (s.setReg .a (rotateResult op s.a s.fC).1).setConstFlags false false false (rotSpec op s.a s.fC).2 := by
  rw [← (rotateResult_eq_spec op _ _).2]
  rfl

/-- R260 to R263: A is rotated as in the prefixed form, and Z is cleared. -/
theorem rotateA_effect {i : Instr} {op : Byte} {f : RotOp} {s : State} (hencode : encode i = [op])
    (hop : Unconditional op 4) (hexec : exec i s = .next ((rotateA f s).chargeBase op)) :
    ∃ t, exec i s = .next t ∧ t.a.toNat = (rotSpec f s.a s.fC).1 ∧ OnlyRegs [.a] s t ∧
      FlagsAre false false false (rotSpec f s.a s.fC).2 t ∧ Costs i 4 s t := by
  rw [rotateA_eq] at hexec
  obtain ⟨t, ht, ha, frame, flags, costs⟩ := setReg_setFlags_effect hencode hop hexec (setConstFlags_flags ..)
  exact ⟨t, ht, (congrArg BitVec.toNat ha).trans (rotateResult_eq_spec f s.a s.fC).1, frame, flags, costs⟩

/-- Settles O35: the four forms differ in their rotate and their opcode. -/
theorem accumulatorRotates : Obligations.AccumulatorRotates := by
  intro s f hf
  simp only [List.mem_cons, List.not_mem_nil, or_false] at hf
  rcases hf with rfl | rfl | rfl | rfl
  · exact ⟨rfl, rotateA_effect rfl (by decide) (exec_rlca s)⟩
  · exact ⟨rfl, rotateA_effect rfl (by decide) (exec_rrca s)⟩
  · exact ⟨rfl, rotateA_effect rfl (by decide) (exec_rla s)⟩
  · exact ⟨rfl, rotateA_effect rfl (by decide) (exec_rra s)⟩

end Sys2Proof.Machine
end

section
/-! PROOFS. The detectors over the integers (R180, R190), and the one-byte specials (R264 to R273): decimal adjust and
what it is for, the complement, the carry, and the modes. -/

namespace Sys2Proof.Machine

/-! ## The detectors -/

theorem toNat_complement (b : Byte) : (255 - b).toNat = 255 - b.toNat := by bv_omega

theorem toNat_not (c : Bool) : (!c).toNat = 1 - c.toNat := by cases c <;> rfl

/-- R190: a difference is the sum with the complement. -/
theorem sub8_res_eq_add8 (a b : Byte) (c : Bool) : (sub8 a b c).res = (add8 a (255 - b) !c).res := by
  have hcarry : bitByte (!c) = 1 - bitByte c := by cases c <;> rfl
  rw [sub8_res, add8_res, hcarry]
  bv_omega

/-- R190: there is a borrow where that sum has no carry. -/
theorem sub8_carry_eq_add8 (a b : Byte) (c : Bool) : (sub8 a b c).carry = !(add8 a (255 - b) !c).carry := by
  have := b.isLt
  have := Bool.toNat_le c
  simp only [sub8, add8, toNat_complement, toNat_not, ← decide_not, decide_eq_decide]
  omega

theorem sub8_half_eq_add8 (a b : Byte) (c : Bool) : (sub8 a b c).half = !(add8 a (255 - b) !c).half := by
  have := b.isLt
  have := Bool.toNat_le c
  simp only [sub8, add8, toNat_complement, toNat_not, ← decide_not, decide_eq_decide]
  omega

/-- Settles O23: the formulas are the detectors' own, but for the subtraction's, which is over natural numbers; and the
three identities of the complement. -/
theorem carryDetectors : Obligations.CarryDetectors := by
  intro a b c
  have hdifference : ((sub8 a b c).res.toNat : Int) = ((a.toNat : Int) - b.toNat - c.toNat) % 256 := by
    rw [sub8, BitVec.toNat_ofInt]
    omega
  have hborrow : (sub8 a b c).carry = decide ((a.toNat : Int) - b.toNat - c.toNat < 0) := by
    rw [sub8, decide_eq_decide]
    omega
  exact ⟨BitVec.toNat_ofNat .., rfl, rfl, hdifference, rfl, hborrow, sub8_res_eq_add8 a b c, sub8_carry_eq_add8 a b c,
    sub8_half_eq_add8 a b c⟩

/-! ## Decimal adjust -/

/-- R264, after a subtraction: H and C alone select the corrections. -/
theorem decimalAdjust_of_sub (h c : Bool) (a : Byte) : decimalAdjust true h c a =
    (a - (if h then 6 else 0) - (if c then 0x60 else 0), c) := by
  cases h <;> cases c <;> simp [decimalAdjust]

/-- R264: after the first correction, which is made wherever the low nibble exceeds 9, the running value exceeds 0x9F
exactly where A exceeds 0x99. -/
theorem corrected_gt_iff {a : Byte} {low : Bool} (hlow : low = false → a.toNat % 16 ≤ 9) :
    0x9F < (if low then a.toNat + 6 else a.toNat) ↔ 0x99 < a.toNat := by
  cases low with
  | false =>
    have := hlow rfl
    rw [if_neg Bool.false_ne_true]
    omega
  | true =>
    rw [if_pos rfl]
    omega

/-- R264, after an addition. -/
theorem decimalAdjust_of_add (h c : Bool) (a : Byte) : decimalAdjust false h c a =
    (a + (if h || decide (9 < a.toNat % 16) then 6 else 0) + (if c || decide (0x99 < a.toNat) then 0x60 else 0),
      c || decide (0x99 < a.toNat)) := by
  have hlow : (h || decide (9 < a.toNat % 16)) = false → a.toNat % 16 ≤ 9 := by simp
  simp only [decimalAdjust, gt_iff_lt, Bool.false_eq_true, if_false]
  generalize (h || decide (9 < a.toNat % 16)) = low at hlow
  have htest := corrected_gt_iff hlow
  have hfirst : BitVec.ofNat 8 (if low then a.toNat + 6 else a.toNat) = a + (if low then 6 else 0) := by
    cases low <;> simp [BitVec.ofNat_add]
  generalize (if low then a.toNat + 6 else a.toNat) = t at htest hfirst
  simp only [htest, ← hfirst]
  by_cases hhigh : 0x99 < a.toNat
  · have hcarry : 0xFF < t + 0x60 := by omega
    simp [hhigh, hcarry, BitVec.ofNat_add]
  · have hcarry : ¬ 0xFF < t := by omega
    cases c <;> simp [hhigh, hcarry, BitVec.ofNat_add]

/-- R264, with the operation's flag N as a parameter. -/
theorem decimalAdjust_eq (n h c : Bool) (a : Byte) : decimalAdjust n h c a =
    (if n then a - (if h then 6 else 0) - (if c then 0x60 else 0)
      else a + (if h || decide (9 < a.toNat % 16) then 6 else 0) + (if c || decide (0x99 < a.toNat) then 0x60 else 0),
      if n then c else c || decide (0x99 < a.toNat)) := by
  cases n with
  | false => exact decimalAdjust_of_add h c a
  | true => exact decimalAdjust_of_sub h c a

theorem decimalAdjustA_eq (s : State) : decimalAdjustA s =
    (s.setReg .a (decimalAdjust s.fN s.fH s.fC s.a).1).setConstFlags
      (decide ((decimalAdjust s.fN s.fH s.fC s.a).1 = 0)) s.fN false (decimalAdjust s.fN s.fH s.fC s.a).2 := by
  rw [← beq_eq_decide]
  rfl

/-- Settles O36: A is written with the adjusted value, and the flags. The theorem has its name under `Special`, since
`decimalAdjust` is a function of the model. -/
theorem Special.decimalAdjust : Obligations.DecimalAdjust := by
  intro s
  have hexec := exec_daa s
  rw [decimalAdjustA_eq, decimalAdjust_eq] at hexec
  obtain ⟨t, ht, ha, frame, flags, costs⟩ :=
    setReg_setFlags_effect (cost := 4) rfl (by decide) hexec (setConstFlags_flags ..)
  rw [← ha] at flags
  exact ⟨rfl, t, ht, frame, flags, ha, costs⟩

/-! ## Decimal arithmetic -/

theorem toNat_bcd {n : Nat} (hn : n < 100) : (bcd n).toNat = n / 10 * 16 + n % 10 := by
  rw [bcd, BitVec.toNat_ofNat]
  omega

/-- The two tests of DAA after an addition find the decimal carries out of the low and the high digit. -/
theorem bcd_add_tests {x y : Nat} (hx : x < 100) (hy : y < 100) :
    (decide (15 < (bcd x).toNat % 16 + (bcd y).toNat % 16) || decide (9 < (bcd x + bcd y).toNat % 16)) =
      decide (10 ≤ x % 10 + y % 10) ∧
    (decide (255 < (bcd x).toNat + (bcd y).toNat) || decide (0x99 < (bcd x + bcd y).toNat)) =
      decide (100 ≤ x + y) := by
  have hsum : (bcd x).toNat + (bcd y).toNat = 16 * (x / 10 + y / 10) + (x % 10 + y % 10) := by
    rw [toNat_bcd hx, toNat_bcd hy]
    omega
  have hxy : x + y = 10 * (x / 10 + y / 10) + (x % 10 + y % 10) := by omega
  have hnibbles : (bcd x).toNat % 16 + (bcd y).toNat % 16 = x % 10 + y % 10 := by
    rw [toNat_bcd hx, toNat_bcd hy]
    omega
  have hlow : x % 10 + y % 10 ≤ 18 := by omega
  have hhigh : x / 10 + y / 10 ≤ 18 := by omega
  simp only [BitVec.toNat_add, hsum, hxy, hnibbles, ← Bool.decide_or, decide_eq_decide]
  generalize x % 10 + y % 10 = low at hlow
  generalize x / 10 + y / 10 = high at hhigh
  omega

/-- R264: a carried digit is 10 less, and a nibble with a carry is 16 less, or 6 more and 16 less. -/
theorem bcd_add {x y : Nat} (hx : x < 100) (hy : y < 100) :
    bcd x + bcd y + (if decide (10 ≤ x % 10 + y % 10) then 6 else 0) + (if decide (100 ≤ x + y) then 0x60 else 0) =
      bcd ((x + y) % 100) := by
  apply BitVec.eq_of_toNat_eq
  by_cases hlow : 10 ≤ x % 10 + y % 10 <;> by_cases hhigh : 100 ≤ x + y <;>
    simp [hlow, hhigh, BitVec.toNat_add, toNat_bcd, hx, hy, Nat.mod_lt] <;> omega

/-- The borrows out of the low and the high digit are those of the nibbles and the bytes. -/
theorem bcd_sub_tests {x y : Nat} (hx : x < 100) (hy : y < 100) :
    decide ((bcd x).toNat % 16 < (bcd y).toNat % 16) = decide (x % 10 < y % 10) ∧
    decide ((bcd x).toNat < (bcd y).toNat) = decide (x < y) := by
  simp only [toNat_bcd hx, toNat_bcd hy, decide_eq_decide]
  omega

theorem bcd_sub {x y : Nat} (hx : x < 100) (hy : y < 100) :
    bcd x - bcd y - (if decide (x % 10 < y % 10) then 6 else 0) - (if decide (x < y) then 0x60 else 0) =
      bcd ((x + 100 - y) % 100) := by
  apply BitVec.eq_of_toNat_eq
  by_cases hlow : x % 10 < y % 10 <;> by_cases hhigh : x < y <;>
    simp [hlow, hhigh, BitVec.toNat_sub, toNat_bcd, hx, hy, Nat.mod_lt] <;> omega

/-- R181, R264: ADD A,B and then DAA. -/
theorem add_daa_decimal {x y : Nat} {s : State} (hx : x < 100) (hy : y < 100) (ha : s.a = bcd x) (hb : s.b = bcd y) :
    ∃ t, runInstrs [.add_A_B, .daa] s = .next t ∧ t.a = bcd ((x + y) % 100) ∧ t.fC = decide (100 ≤ x + y) := by
  obtain ⟨⟨-, t, ht, ta, -, ⟨-, tn, th, tc⟩, -⟩, -⟩ := arithmeticLogicGroup .add .b 0 s
  obtain ⟨-, u, hu, -, ⟨-, -, -, uc⟩, ua, -⟩ := Special.decimalAdjust t
  obtain ⟨hlow, hhigh⟩ := bcd_add_tests hx hy
  simp only [aluSpec, State.reg, ha, hb] at ta tn th tc
  simp only [ta, tn, th, tc, hlow, hhigh, Bool.false_eq_true, if_false] at ua uc
  exact ⟨u, by rw [runInstrs_cons (i := .add_A_B) _ ht, runInstrs_cons _ hu, runInstrs], ua.trans (bcd_add hx hy), uc⟩

/-- R183, R264: SUB B and then DAA. -/
theorem sub_daa_decimal {x y : Nat} {s : State} (hx : x < 100) (hy : y < 100) (ha : s.a = bcd x) (hb : s.b = bcd y) :
    ∃ t, runInstrs [.sub_B, .daa] s = .next t ∧ t.a = bcd ((x + 100 - y) % 100) ∧ t.fC = decide (x < y) := by
  obtain ⟨⟨-, t, ht, ta, -, ⟨-, tn, th, tc⟩, -⟩, -⟩ := arithmeticLogicGroup .sub .b 0 s
  obtain ⟨-, u, hu, -, ⟨-, -, -, uc⟩, ua, -⟩ := Special.decimalAdjust t
  obtain ⟨hlow, hhigh⟩ := bcd_sub_tests hx hy
  simp only [aluSpec, State.reg, ha, hb] at ta tn th tc
  simp only [ta, tn, th, tc, hlow, hhigh, if_true] at ua uc
  exact ⟨u, by rw [runInstrs_cons (i := .sub_B) _ ht, runInstrs_cons _ hu, runInstrs], ua.trans (bcd_sub hx hy), uc⟩

/-- Settles O37: the corrections of DAA are the decimal carries and borrows of the two digits. -/
theorem decimalArithmetic : Obligations.DecimalArithmetic := fun _ _ _ hx hy ha hb =>
  ⟨add_daa_decimal hx hy ha hb, sub_daa_decimal hx hy ha hb⟩

/-! ## The complement, the carry and the modes -/

theorem complementA_eq (s : State) :
    complementA s = (s.setReg .a (~~~s.a)).setConstFlags s.fZ true true s.fC := by
  rw [complementA, ← BitVec.xor_allOnes]
  rfl

/-- R266, R267: an instruction that writes the flags alone. -/
theorem setConstFlags_effect {i : Instr} {op : Byte} {z n h c : Bool} {s : State} (hencode : encode i = [op])
    (hop : Unconditional op 4) (hexec : exec i s = .next ((s.setConstFlags z n h c).chargeBase op)) :
    ∃ t, exec i s = .next t ∧ OnlyRegs [] s t ∧ FlagsAre z n h c t ∧ Costs i 4 s t :=
  ⟨_, hexec, (setFlags_onlyRegs ..).chargeBase op, setConstFlags_flags .., .of_chargeBase hencode hop rfl rfl⟩

/-- Settles O38: CPL writes A and the flags, the other two the flags. -/
theorem complementAndCarry : Obligations.ComplementAndCarry := by
  intro s
  have hexec := exec_cpl s
  rw [complementA_eq] at hexec
  obtain ⟨t, ht, ha, frame, flags, costs⟩ :=
    setReg_setFlags_effect (cost := 4) rfl (by decide) hexec (setConstFlags_flags ..)
  have hnot : t.a.toNat = 255 - s.a.toNat := (congrArg BitVec.toNat ha).trans BitVec.toNat_not
  exact ⟨⟨rfl, t, ht, hnot, frame, flags, costs⟩, ⟨rfl, setConstFlags_effect rfl (by decide) (exec_scf s)⟩,
    rfl, setConstFlags_effect rfl (by decide) (exec_ccf s)⟩

/-- R268 to R270, R272, R273: an instruction that writes IME and halted alone. -/
theorem mode_effect {i : Instr} {op : Byte} {ime halted : Bool} {s : State} (hencode : encode i = [op])
    (hop : Unconditional op 4)
    (hexec : exec i s = .next (State.chargeBase op { s with ime := ime, halted := halted })) :
    ∃ t, exec i s = .next t ∧ t.ime = ime ∧ t.halted = halted ∧
      SameRegsBut [] s t ∧ t.sp = s.sp ∧ t.pc = s.pc ∧ SameFlags s t ∧ SameBus s t ∧ Costs i 4 s t :=
  ⟨_, hexec, rfl, rfl, fun r _ => by cases r <;> rfl, rfl, rfl, ⟨rfl, rfl, rfl⟩, SameBus.refl s,
    .of_chargeBase hencode hop rfl rfl⟩

/-- Settles O39: a mode that an instruction does not write is written with itself. -/
theorem modeInstructions : Obligations.ModeInstructions := by
  intro s f hf
  simp only [List.mem_cons, List.not_mem_nil, or_false] at hf
  rcases hf with rfl | rfl | rfl | rfl | rfl
  · exact ⟨rfl, mode_effect rfl (by decide) (exec_di s)⟩
  · exact ⟨rfl, mode_effect rfl (by decide) (exec_ei s)⟩
  · exact ⟨rfl, mode_effect rfl (by decide) (exec_halt s)⟩
  · exact ⟨rfl, mode_effect rfl (by decide) (exec_stop s)⟩
  · exact ⟨rfl, mode_effect rfl (by decide) (exec_nop s)⟩

end Sys2Proof.Machine
end

section
/-! PROOFS. The interrupt check (R290 to R294) in each of its cases, its entry (R292), and the return from it (R296). -/

namespace Sys2Proof.Machine

/-! ## The check that takes no interrupt -/

theorem not_idle {s : State} (hr : s.requests ≠ 0) (h : s.ime = true ∨ s.halted = true) :
    ¬ (s.requests = 0 ∨ (s.ime = false ∧ s.halted = false)) := by
  rintro (h0 | ⟨hi, hh⟩)
  · exact hr h0
  · simp [hi, hh] at h

/-- R290: without a request, or with IME clear and the core running, the check does nothing. -/
theorem serviceInterrupt_of_idle {s : State} (h : s.requests = 0 ∨ (s.ime = false ∧ s.halted = false)) :
    serviceInterrupt s = s := by
  rcases serviceInterrupt_cases s with ⟨-, hs⟩ | ⟨hr, -, hh, -⟩ | ⟨hr, hi, -⟩
  · exact hs
  · exact absurd h (not_idle hr (.inr hh))
  · exact absurd h (not_idle hr (.inl hi))

/-- Settles O49: the first two cases of the check. -/
theorem checkWithoutEntry : Obligations.CheckWithoutEntry := by
  intro s
  refine ⟨fun h => serviceInterrupt_of_idle (.inl h), fun hi hh => serviceInterrupt_of_idle (.inr ⟨hi, hh⟩),
    fun hi hh hr => ?_⟩
  rcases serviceInterrupt_cases s with ⟨h, -⟩ | ⟨-, -, -, hs⟩ | ⟨-, h, -⟩
  · exact absurd h (not_idle hr (.inr hh))
  · exact hs
  · exact absurd h (by simp [hi])

/-- Settles O46: the check does nothing, and 4 is charged to a count of 0. -/
theorem haltedStepIdles : Obligations.HaltedStepIdles := by
  intro s hh hr
  have hcheck : serviceInterrupt s.beginStep = s.beginStep := serviceInterrupt_of_idle (.inl hr)
  rcases step_cases s with ⟨-, hstep⟩ | ⟨hrun, -⟩
  · have hcount : addCount 0 4 = 4 := by decide
    rw [hstep, hcheck, State.charge, State.beginStep_cycles, hcount]
    rfl
  · rw [hcheck, State.beginStep_halted, hh] at hrun
    cases hrun

/-! ## The entry -/

theorem memWrite_setHalted (a : Word) (v : Byte) (b : Bool) (s : State) :
    memWrite a v { s with halted := b } = { memWrite a v s with halted := b } := by
  have h : ({ s with halted := b } : State).kindAt a = s.kindAt a := rfl
  unfold memWrite
  rw [h]
  split <;> rfl

/-- R292: an entry does not look at halted, and leaves it. -/
theorem enterInterrupt_setHalted (n : Fin 5) (b : Bool) (s : State) :
    enterInterrupt n { s with halted := b } = { enterInterrupt n s with halted := b } := by
  simp only [enterInterrupt_eq, push16_eq, memWrite_setHalted]

/-- R290: with IME set, the check takes the interrupt of the winning line. -/
theorem serviceInterrupt_of_isWinner {n : Fin 5} {s : State} (hi : s.ime = true) (hn : IsWinner n s) :
    serviceInterrupt s = { enterInterrupt n s with halted := false } := by
  rcases serviceInterrupt_cases s with ⟨h, -⟩ | ⟨-, h, -⟩ | ⟨-, -, hs⟩
  · exact absurd h (not_idle (requests_ne_zero_of_isWinner hn) (.inl hi))
  · exact absurd h (by simp [hi])
  · rw [hs, lowestLine_of_isWinner hn, enterInterrupt_setHalted]

/-- R13: acknowledging a line clears its bit and no other. -/
theorem getLsbD_acknowledged (m : BitVec 5) (n k : Fin 5) :
    (m &&& ~~~(1#5 <<< n.val)).getLsbD k.val = (m.getLsbD k.val && decide (k ≠ n)) := by
  revert m n k
  decide

/-- R292: the request of the line taken is acknowledged after the push. -/
theorem enterInterrupt_irqPending (n : Fin 5) (s : State) :
    (enterInterrupt n s).irqPending = (push16 s.pc s).irqPending &&& ~~~(1#5 <<< n.val) := by
  rw [enterInterrupt_eq]

/-- R286: the vector of a line in the recommended parameters. -/
theorem entryAddress_of_recommended {p : Config.Params} (h : p.irqVector = defaultParams.irqVector) (n : Fin 5) :
    entryAddress p n = BitVec.ofNat 16 (0x40 + 8 * n.val) := by
  rw [← entryAddress_defaultParams, entryAddress, h, entryAddress]

/-- Settles O50: the check is the entry of the winning line, with halted cleared besides. -/
theorem interruptEntry : Obligations.InterruptEntry := by
  intro n s t hi hn ht
  rw [serviceInterrupt_of_isWinner hi hn] at ht
  subst ht
  obtain ⟨htrace, hbus⟩ := enterInterrupt_busAfter n s
  have hregs : SameRegsBut [] s { enterInterrupt n s with halted := false } := fun r _ => by
    rw [← enterInterrupt_reg n s r]
    cases r <;> rfl
  have hcleared : (enterInterrupt n s).irqPending.getLsbD n.val = false := by
    rw [enterInterrupt_irqPending, getLsbD_acknowledged]
    simp
  refine ⟨enterInterrupt_ime n s, rfl, enterInterrupt_pc n s,
    fun h => (enterInterrupt_pc n s).trans (entryAddress_of_recommended h n), enterInterrupt_sp n s, hregs,
    ⟨enterInterrupt_fZ n s, enterInterrupt_nh n s, enterInterrupt_fC n s⟩, htrace,
    (enterInterrupt_storedBytes n s).then_mem rfl, hcleared, fun hd => ?_, .of_cycles (enterInterrupt_cycles n s)⟩
  obtain ⟨bytes, map, pending, enabled, oracle⟩ := hbus hd
  refine ⟨bytes, map, enabled, oracle, fun m hm => ?_⟩
  rw [pending, getLsbD_acknowledged, decide_eq_true hm, Bool.and_true]

/-! ## The requests after the check -/

/-- R52, R294: a check leaves the map and the enable lines, and clears the winning line's request alone, when IME is
set. -/
theorem serviceInterrupt_lines {s : State} (hd : s.deviceFree) :
    (serviceInterrupt s).busMap = s.busMap ∧ (serviceInterrupt s).irqEnabled = s.irqEnabled ∧
      ∀ m : Fin 5, (serviceInterrupt s).irqPending.getLsbD m.val = true ↔
        s.irqPending.getLsbD m.val = true ∧ ¬ (s.ime = true ∧ IsWinner m s) := by
  rcases serviceInterrupt_cases s with ⟨h, hs⟩ | ⟨-, hi, -, hs⟩ | ⟨hr, hi, -⟩
  · have hnone : ∀ m, ¬ (s.ime = true ∧ IsWinner m s) := fun m ⟨hi, hm⟩ =>
      not_idle (requests_ne_zero_of_isWinner hm) (.inl hi) h
    rw [hs]
    exact ⟨rfl, rfl, fun m => by simp [hnone m]⟩
  · rw [hs]
    exact ⟨rfl, rfl, fun m => by simp [hi]⟩
  · have hn := isWinner_lowestLine hr
    generalize lowestLine s.requests = n at hn
    obtain ⟨-, map, pending, enabled, -⟩ := (enterInterrupt_busAfter n s).2 fun a _ => hd a
    have hwinner : ∀ m, IsWinner m s ↔ m = n := fun m => ⟨fun hm => isWinner_unique hm hn, fun h => h ▸ hn⟩
    rw [serviceInterrupt_of_isWinner hi hn]
    refine ⟨map, enabled, fun m => ?_⟩
    simp only [pending, getLsbD_acknowledged, hwinner m, hi, Bool.and_eq_true, decide_eq_true_eq, true_and]

/-- R294: after a check, there is nothing for a second one to do: nothing was requested, or IME is clear and the core
runs. -/
theorem serviceInterrupt_idle (s : State) :
    (serviceInterrupt s).requests = 0 ∨ ((serviceInterrupt s).ime = false ∧ (serviceInterrupt s).halted = false) := by
  rcases serviceInterrupt_cases s with ⟨h, hs⟩ | ⟨-, hi, -, hs⟩ | ⟨hr, hi, -⟩
  · rwa [hs]
  · rw [hs]
    exact .inr ⟨hi, rfl⟩
  · rw [serviceInterrupt_of_isWinner hi (isWinner_lowestLine hr)]
    exact .inr ⟨enterInterrupt_ime (lowestLine s.requests) s, rfl⟩

/-- Settles O52: a line that is not the winning one keeps its request. -/
theorem oneInterruptPerCheck : Obligations.OneInterruptPerCheck := by
  intro s
  refine ⟨serviceInterrupt_of_idle (serviceInterrupt_idle s), fun hd m hm => ?_⟩
  obtain ⟨-, -, pending⟩ := serviceInterrupt_lines hd
  rw [Bool.eq_iff_iff, pending m]
  exact and_iff_left fun h => hm h.2

/-! ## The return -/

theorem SameFlags.trans {s t u : State} (h : SameFlags s t) (h' : SameFlags t u) : SameFlags s u := by
  obtain ⟨z, nh, c⟩ := h
  obtain ⟨z', nh', c'⟩ := h'
  exact ⟨z'.trans z, nh'.trans nh, c'.trans c⟩

theorem SameRegsBut.trans {s t u : State} (h : SameRegsBut [] s t) (h' : SameRegsBut [] t u) : SameRegsBut [] s u :=
  fun r hr => (h' r hr).trans (h r hr)

/-- R230: a word pushed onto plain bytes is on top. -/
theorem OnTop.of_storedBytes {v : Word} {s t : State} (hm : Memory.wf s.mem) (h1 : s.isPlain (s.sp - 1))
    (h2 : s.isPlain (s.sp - 2)) (hsp : t.sp = s.sp - 2) (hmap : t.busMap = s.busMap)
    (hstored : StoredBytes [(s.sp - 1, hi v), (s.sp - 2, lo v)] s t) : OnTop v t := by
  have hbytes := hstored hm (noDevice_of_isPlain h1 h2)
  have hnext : s.sp - 2 + 1 = s.sp - 1 := by bv_omega
  constructor <;> simp only [State.isPlain, hsp, hnext, kindAt_of_busMap hmap]
  · exact h2
  · exact h1
  · exact (hbytes (s.sp - 2, lo v) (by simp)).trans (if_pos h2)
  · exact (hbytes (s.sp - 1, hi v) (by simp)).trans (if_pos h1)

/-- R218, R221, R231: a return goes on at the word on top. -/
theorem return_of_onTop {i : Instr} {v : Word} {ime : Bool} {n : Nat} {t : State} (h : OnTop v t)
    (hexec : exec i t = .next ({ popPC t with ime := ime }.charge n)) :
    ∃ u, exec i t = .next u ∧ u.pc = v ∧ u.sp = t.sp + 2 ∧ u.ime = ime ∧ u.halted = t.halted ∧
      SameRegsBut [] t u ∧ SameFlags t u := by
  obtain ⟨flags, ⟨-, halted⟩, -⟩ := pop16_quiet t
  obtain ⟨hlow, hhigh⟩ := memRead_memRead_of_isPlain h.lowPlain h.highPlain
  have hword : (pop16 t).1 = v := by rw [pop16_fst, hhigh, hlow, h.low, h.high, join_hi_lo]
  have hregs : SameRegsBut [] t ({ popPC t with ime := ime }.charge n) := fun r _ => by
    rw [← pop16_reg t r]
    cases r <;> rfl
  exact ⟨_, hexec, hword, pop16_sp t, rfl, halted, hregs, flags⟩

theorem sp_sub_two_add_two (s : State) : s.sp - 2 + 2 = s.sp := BitVec.sub_add_cancel s.sp 2

/-- R216, R218, R222: a call or a restart, and then RET. -/
theorem call_ret_restores {i : Instr} {target : Word} {n : Nat} {s : State}
    (hexec : exec i s = .next ((call target s).charge n)) (hm : Memory.wf s.mem) (h1 : s.isPlain (s.sp - 1))
    (h2 : s.isPlain (s.sp - 2)) : ∃ u, runInstrs [i, .ret] s = .next u ∧
      u.pc = s.pc ∧ u.sp = s.sp ∧ SameRegsBut [] s u ∧ SameFlags s u ∧ SameModes s u := by
  obtain ⟨flags, ⟨ime, halted⟩, -⟩ := push16_quiet s.pc s
  obtain ⟨-, bus⟩ := push16_busAfter s.pc s
  obtain ⟨-, map, -⟩ := bus (noDevice_of_isPlain h1 h2)
  have hsp : ((call target s).charge n).sp = s.sp - 2 := push16_sp s.pc s
  have hregs : SameRegsBut [] s ((call target s).charge n) := fun r _ => by
    rw [← push16_reg s.pc s r]
    cases r <;> rfl
  have htop : OnTop s.pc ((call target s).charge n) :=
    .of_storedBytes hm h1 h2 hsp map ((push16_storedBytes s.pc s).then_mem rfl)
  have hret := exec_ret ((call target s).charge n)
  rw [popPC_eq_with_ime] at hret
  obtain ⟨u, hu, pc, sp, uime, uhalted, uregs, uflags⟩ := return_of_onTop htop hret
  refine ⟨u, by rw [runInstrs_cons _ hexec, runInstrs_cons _ hu, runInstrs], pc, ?_, hregs.trans uregs,
    SameFlags.trans flags uflags, uime.trans ime, uhalted.trans halted⟩
  rw [sp, hsp, sp_sub_two_add_two]

/-- Settles O51: a call, a restart and an entry leave PC on top, and the return pops it. -/
theorem returnUndoesCallAndEntry : Obligations.ReturnUndoesCallAndEntry := by
  intro a16 y n s hm h1 h2
  refine ⟨fun i hi => ?_, fun hime hn => ?_⟩
  · simp only [List.mem_cons, List.not_mem_nil, or_false] at hi
    rcases hi with rfl | rfl
    · exact call_ret_restores (exec_call_a16 s a16) hm h1 h2
    · exact call_ret_restores (exec_rst s y) hm h1 h2
  · obtain ⟨-, halted, -, -, sp, regs, flags, -, stored, -, bus, -⟩ := interruptEntry n s _ hime hn rfl
    obtain ⟨-, map, -⟩ := bus (noDevice_of_isPlain h1 h2)
    obtain ⟨u, hu, pc, usp, uime, uhalted, uregs, uflags⟩ :=
      return_of_onTop (.of_storedBytes hm h1 h2 sp map stored) (exec_reti _)
    exact ⟨u, hu, pc, by rw [usp, sp, sp_sub_two_add_two], regs.trans uregs, flags.trans uflags, uime,
      uhalted.trans halted⟩

end Sys2Proof.Machine
end

section
/-! PROOFS. What every instruction costs (R333 to R335), that no instruction drives the interrupt lines (R52, R287), and
what a step is (R298): the check, and then a halted step or the instruction encoded at PC. -/

namespace Sys2Proof.Machine

/-! ## What every instruction costs -/

section Counted

variable {i : Instr} {s u : State}

/-- R330: the count grows by the cost in the implementation's tables. -/
def Counted (i : Instr) (s : State) : Prop := ∃ t, exec i s = .next t ∧ CountGrows (tableCost i s) s t

theorem Counted.of_chargeBase {op : Byte} {operands : List Byte} (hexec : exec i s = .next (u.chargeBase op))
    (hencode : encode i = op :: operands) (hop : op ≠ 0xCB ∧ conditionOf op = none) (hparams : u.params = s.params)
    (hcycles : u.cycles = s.cycles) : Counted i s :=
  ⟨_, hexec, (Costs.of_chargeBase hencode ⟨hop.1, hop.2, rfl⟩ hparams hcycles).1⟩

theorem Counted.of_unconditional {op : Byte} {operands : List Byte} {n : Nat}
    (hop : encode i = op :: operands ∧ Unconditional op n) (hexec : exec i s = .next (u.chargeBase op))
    (hparams : u.params = s.params) (hcycles : u.cycles = s.cycles) : Counted i s :=
  ⟨_, hexec, (Costs.of_chargeBase hop.1 hop.2 hparams hcycles).1⟩

theorem Counted.of_conditional {op : Byte} {operands : List Byte} {cc : Cond} {taken untaken : Nat}
    (hop : encode i = op :: operands ∧ Conditional op cc taken untaken)
    (hexec : exec i s = .next (u.chargeTransfer op (s.cond cc))) (hparams : u.params = s.params)
    (hcycles : u.cycles = s.cycles) : Counted i s :=
  ⟨_, hexec, (Costs.of_chargeTransfer hop.1 hop.2 rfl hparams hcycles).1⟩

/-- R334: the prefixed instruction of a second byte. -/
theorem Counted.decodeExtended (op2 : Byte) (s : State) : Counted (decodeExtended op2) s :=
  ⟨_, exec_decodeExtended op2 s, (Costs.of_chargeExtended (encode_decodeExtended op2) rfl (extended_params s op2)
    (extended_cycles s op2)).1⟩

end Counted

/-- R333 to R335: each instruction is an operation that leaves the parameters and the count, followed by the charge of
its opcode. -/
theorem exec_counted {i : Instr} (hi : i.wf = true) (s : State) : Counted i s := by
  induction i using Instr.byFamily with
  | cbPrefix => cases hi
  | rotate op o => rw [rotate_eq_decodeExtended]; exact .decodeExtended _ s
  | bit b o => rw [bit_eq_decodeExtended]; exact .decodeExtended _ s
  | res b o => rw [res_eq_decodeExtended]; exact .decodeExtended _ s
  | set b o => rw [set_eq_decodeExtended]; exact .decodeExtended _ s
  | jrCond cc e => exact .of_conditional (jrCond_opcode cc e) (exec_jrCond s cc e) (by simp) (by simp)
  | jpCond cc a16 => exact .of_conditional (jpCond_opcode cc a16) (exec_jpCond s cc a16) (by simp) (by simp)
  | callCond cc a16 => exact .of_conditional (callCond_opcode cc a16) (exec_callCond s cc a16) (by simp) (by simp)
  | retCond cc => exact .of_conditional (retCond_opcode cc) (exec_retCond s cc) (by simp) (by simp)
  | ldRegReg dst r => exact .of_unconditional (ldRegReg_opcode dst r) (exec_ldRegReg s dst r) (by simp) (by simp)
  | ldRegMem dst => exact .of_unconditional (ldRegMem_opcode dst) (exec_ldRegMem s dst) (by simp) (by simp)
  | ldMemReg r => exact .of_unconditional (ldMemReg_opcode r) (exec_ldMemReg s r) (by simp) (by simp)
  | ldImm o d8 =>
    cases o with
    | reg r => exact .of_unconditional (ldImm_reg_opcode r d8) (exec_ldImm_reg s r d8) (by simp) (by simp)
    | atHL => exact .of_chargeBase (exec_ldImm_atHL s d8) rfl (by decide) (by simp) (by simp)
  | inc o =>
    cases o with
    | reg r => exact .of_unconditional (inc_reg_opcode r) (exec_inc_reg s r) (by simp) (by simp)
    | atHL => exact .of_chargeBase (exec_inc_atHL s) rfl (by decide) (by simp) (by simp)
  | dec o =>
    cases o with
    | reg r => exact .of_unconditional (dec_reg_opcode r) (exec_dec_reg s r) (by simp) (by simp)
    | atHL => exact .of_chargeBase (exec_dec_atHL s) rfl (by decide) (by simp) (by simp)
  | alu op o =>
    cases o with
    | reg r => exact .of_unconditional (alu_reg_opcode op r) (exec_alu_reg s op r) (by simp) (by simp)
    | atHL => exact .of_unconditional (alu_atHL_opcode op) (exec_alu_atHL s op) (by simp) (by simp)
  | aluImm op d8 => exact .of_unconditional (aluImm_opcode op d8) (exec_aluImm s op d8) (by simp) (by simp)
  | ldPair p d16 => exact .of_unconditional (ldPair_opcode p d16) (exec_ldPair s p d16) (by simp) (by simp)
  | incPair p => exact .of_unconditional (incPair_opcode p) (exec_incPair s p) (by simp) (by simp)
  | decPair p => exact .of_unconditional (decPair_opcode p) (exec_decPair s p) (by simp) (by simp)
  | addHL p => exact .of_unconditional (addHL_opcode p) (exec_addHL s p) (by simp) (by simp)
  | push p => exact .of_unconditional (push_opcode p) (exec_push s p) (by simp) (by simp)
  | pop p => exact .of_unconditional (pop_opcode p) (exec_pop s p) (by simp) (by simp)
  | rst y => exact .of_unconditional (rst_opcode y) (exec_rst s y) (by simp) (by simp)
  | _ => exact .of_chargeBase rfl rfl (by decide) (by simp) (by simp)

/-- Settles O47: where the tables are the recommended ones, so is the cost. -/
theorem costIsTheTables : Obligations.CostIsTheTables := by
  intro i s hi
  obtain ⟨t, hexec, hgrows⟩ := exec_counted hi s
  exact ⟨t, hexec, hgrows, fun hr => tableCost_of_recommended hr i ▸ hgrows⟩

/-! ## The interrupt lines through the operations -/

/-- Where no address is a device's, the map and the interrupt lines are kept. The definition is over projections, so
that a change of another field is invisible to it. -/
def LinesKept (s t : State) : Prop :=
  s.deviceFree → t.busMap = s.busMap ∧ t.irqPending = s.irqPending ∧ t.irqEnabled = s.irqEnabled

theorem deviceFree_of_busMap {s t : State} (h : t.busMap = s.busMap) (hd : s.deviceFree) : t.deviceFree := fun a => by
  rw [kindAt_of_busMap h]
  exact hd a

theorem LinesKept.refl (s : State) : LinesKept s s := fun _ => ⟨rfl, rfl, rfl⟩

theorem LinesKept.trans {s t u : State} (h : LinesKept s t) (h' : LinesKept t u) : LinesKept s u := fun hd => by
  obtain ⟨map, pending, enabled⟩ := h hd
  obtain ⟨map', pending', enabled'⟩ := h' (deviceFree_of_busMap map hd)
  exact ⟨map'.trans map, pending'.trans pending, enabled'.trans enabled⟩

/-- R306: only the access of a device drives a line. -/
theorem BusAfter.linesKept {accessed stored : List Word} {calls : List PortEvent} {s t : State}
    (h : BusAfter accessed stored calls s t) : LinesKept s t := fun hd => by
  obtain ⟨-, map, pending, enabled, -⟩ := h.2 fun a _ => hd a
  exact ⟨map, pending, enabled⟩

theorem memRead_linesKept (a : Word) (s : State) : LinesKept s (memRead a s).2 := (memRead_busAfter a s).linesKept

theorem memWrite_linesKept (a : Word) (v : Byte) (s : State) : LinesKept s (memWrite a v s) :=
  (memWrite_busAfter a v s).linesKept

theorem push16_linesKept (v : Word) (s : State) : LinesKept s (push16 v s) := (push16_busAfter v s).linesKept

theorem pop16_linesKept (s : State) : LinesKept s (pop16 s).2 := (pop16_busAfter s).linesKept

theorem fetch8_linesKept (s : State) : LinesKept s (fetch8 s).2 := memRead_linesKept s.pc s

theorem fetchBytes_linesKept (n : Nat) (s : State) : LinesKept s (fetchBytes n s).2 := by
  induction n generalizing s with
  | zero => exact .refl s
  | succ n ih => exact (fetch8_linesKept s).trans (ih (fetch8 s).2)

theorem fetchInstruction_linesKept (s : State) : LinesKept s (fetchInstruction s).2 :=
  (fetch8_linesKept s).trans (fetchBytes_linesKept _ _)

theorem setReg_linesKept (r : Reg8) (v : Byte) (s : State) : LinesKept s (s.setReg r v) := by
  cases r <;> exact .refl s

theorem setPair_linesKept (p : Pair) (v : Word) (s : State) : LinesKept s (s.setPair p v) := by
  cases p <;> exact .refl s

theorem setStackPair_linesKept (p : StackPair) (v : Word) (s : State) : LinesKept s (s.setStackPair p v) := by
  cases p <;> exact .refl s

theorem alu_linesKept (op : AluOp) (v : Byte) (s : State) : LinesKept s (alu op v s) := by
  cases op <;> exact .refl s

theorem readOperand_linesKept (o : Operand8) (s : State) : LinesKept s (s.readOperand o).2 := by
  cases o with
  | reg r => exact .refl s
  | atHL => exact memRead_linesKept s.hl s

theorem writeOperand_linesKept (o : Operand8) (v : Byte) (s : State) : LinesKept s (s.writeOperand o v) := by
  cases o with
  | reg r => exact setReg_linesKept r v s
  | atHL => exact memWrite_linesKept s.hl v s

/-- R241: the operand read and then written. -/
theorem readWriteOperand_linesKept (o : Operand8) (v : Byte) (s : State) :
    LinesKept s ((s.readOperand o).2.writeOperand o v) :=
  (readOperand_linesKept o s).trans (writeOperand_linesKept o v _)

theorem readModifyWrite_linesKept (a : Word) (v : Byte) (s : State) :
    LinesKept s (memWrite a v (memRead a s).2) :=
  (readModifyWrite_busAfter a v s).linesKept

theorem extended_linesKept (op2 : Byte) (s : State) : LinesKept s (extended op2 s) := by
  unfold extended
  dsimp only
  split
  · exact readWriteOperand_linesKept _ _ s
  · exact readOperand_linesKept _ s
  · exact readWriteOperand_linesKept _ _ s
  · exact readWriteOperand_linesKept _ _ s

/-- What a conditional transfer leaves, taken or not. -/
theorem LinesKept.ite {s t : State} (taken : Bool) (h : LinesKept s t) : LinesKept s (if taken then t else s) := by
  cases taken
  · exact .refl s
  · exact h

/-- HL stepped after an access. -/
theorem LinesKept.setHL {s t : State} (h : LinesKept s t) (v : Word) : LinesKept s (t.setHL v) := h

/-! ## The interrupt lines through an instruction and a step -/

/-- The instruction answers a state with the lines kept. -/
def Undriven (i : Instr) (s : State) : Prop := ∃ t, exec i s = .next t ∧ LinesKept s t

theorem Undriven.of_charge {i : Instr} {s t : State} {n : Nat} (hexec : exec i s = .next (t.charge n))
    (h : LinesKept s t) : Undriven i s :=
  ⟨t.charge n, hexec, h⟩

/-- R52, R287: no instruction drives a line; each is one of the operations above, followed by a charge. -/
theorem exec_undriven (i : Instr) (s : State) : Undriven i s := by
  induction i using Instr.byFamily with
  | alu op o =>
    cases o with
    | reg r => exact .of_charge (exec_alu_reg s op r) (alu_linesKept op _ s)
    | atHL => exact .of_charge (exec_alu_atHL s op) ((memRead_linesKept s.hl s).trans (alu_linesKept op _ _))
  | aluImm op d8 => exact .of_charge (exec_aluImm s op d8) (alu_linesKept op d8 s)
  | inc o =>
    cases o with
    | reg r => exact .of_charge (exec_inc_reg s r) (setReg_linesKept r _ s)
    | atHL => exact .of_charge (exec_inc_atHL s) (readModifyWrite_linesKept s.hl _ s)
  | dec o =>
    cases o with
    | reg r => exact .of_charge (exec_dec_reg s r) (setReg_linesKept r _ s)
    | atHL => exact .of_charge (exec_dec_atHL s) (readModifyWrite_linesKept s.hl _ s)
  | ldImm o d8 =>
    cases o with
    | reg r => exact .of_charge (exec_ldImm_reg s r d8) (setReg_linesKept r d8 s)
    | atHL => exact .of_charge (exec_ldImm_atHL s d8) (memWrite_linesKept s.hl d8 s)
  | rotate op o => rw [rotate_eq_decodeExtended]; exact .of_charge (exec_decodeExtended _ s) (extended_linesKept _ _)
  | bit b o => rw [bit_eq_decodeExtended]; exact .of_charge (exec_decodeExtended _ s) (extended_linesKept _ _)
  | res b o => rw [res_eq_decodeExtended]; exact .of_charge (exec_decodeExtended _ s) (extended_linesKept _ _)
  | set b o => rw [set_eq_decodeExtended]; exact .of_charge (exec_decodeExtended _ s) (extended_linesKept _ _)
  | cbPrefix => exact .of_charge (exec_cbPrefix s) ((fetch8_linesKept s).trans (extended_linesKept _ _))
  | ldRegReg dst r => exact .of_charge (exec_ldRegReg s dst r) (setReg_linesKept dst _ s)
  | ldRegMem dst => exact .of_charge (exec_ldRegMem s dst) ((memRead_linesKept s.hl s).trans (setReg_linesKept dst _ _))
  | ldMemReg r => exact .of_charge (exec_ldMemReg s r) (memWrite_linesKept s.hl _ s)
  | ldPair p d16 => exact .of_charge (exec_ldPair s p d16) (setPair_linesKept p d16 s)
  | incPair p => exact .of_charge (exec_incPair s p) (setPair_linesKept p _ s)
  | decPair p => exact .of_charge (exec_decPair s p) (setPair_linesKept p _ s)
  | jrCond cc e => exact .of_charge (exec_jrCond s cc e) (.ite _ (.refl s))
  | jpCond cc a16 => exact .of_charge (exec_jpCond s cc a16) (.ite _ (.refl s))
  | callCond cc a16 => exact .of_charge (exec_callCond s cc a16) (.ite _ (push16_linesKept s.pc s))
  | retCond cc => exact .of_charge (exec_retCond s cc) (.ite _ (pop16_linesKept s))
  | addHL p => exact .of_charge (exec_addHL s p) (.refl s)
  | push p => exact .of_charge (exec_push s p) (push16_linesKept _ s)
  | pop p => exact .of_charge (exec_pop s p) ((pop16_linesKept s).trans (setStackPair_linesKept p _ _))
  | rst y => exact .of_charge (exec_rst s y) (push16_linesKept s.pc s)
  | call_a16 => exact .of_charge rfl (push16_linesKept s.pc s)
  | ret | reti => exact .of_charge rfl (pop16_linesKept s)
  | ld_mA16_SP a16 =>
    exact .of_charge (exec_ld_mA16_SP s a16) ((memWrite_linesKept a16 _ s).trans (memWrite_linesKept (a16 + 1) _ _))
  | ldh_mA8_A | ld_mA16_A | ld_mBC_A | ld_mDE_A | ld_mC_A => exact .of_charge rfl (memWrite_linesKept _ s.a s)
  | ld_mHLI_A | ld_mHLD_A => exact .of_charge rfl ((memWrite_linesKept s.hl s.a s).setHL _)
  | ldh_A_mA8 | ld_A_mA16 | ld_A_mBC | ld_A_mDE | ld_A_mC | ld_A_mHLI | ld_A_mHLD =>
    exact .of_charge rfl (memRead_linesKept _ s)
  | _ => exact .of_charge rfl (.refl s)

/-- Settles O53: the check clears the winning line, and what follows it drives no line. -/
theorem requestsClearedOnlyByEntry : Obligations.RequestsClearedOnlyByEntry := by
  intro s hd
  obtain ⟨map, enabled, pending⟩ := serviceInterrupt_lines (s := s.beginStep) hd
  have hd' : (serviceInterrupt s.beginStep).deviceFree := deviceFree_of_busMap map hd
  have hrest : ∃ t, step s = .next t ∧ LinesKept (serviceInterrupt s.beginStep) t := by
    rcases step_cases s with ⟨-, hstep⟩ | ⟨-, i, -, -, hstep⟩
    · exact ⟨_, hstep, .refl _⟩
    · obtain ⟨t, hexec, hlines⟩ := exec_undriven i (fetchInstruction (serviceInterrupt s.beginStep)).2
      exact ⟨t, hstep.trans hexec, (fetchInstruction_linesKept _).trans hlines⟩
  obtain ⟨t, hstep, hlines⟩ := hrest
  obtain ⟨-, pending', enabled'⟩ := hlines hd'
  exact ⟨t, hstep, enabled'.trans enabled, fun m => by rw [pending']; exact pending m⟩

/-! ## The step at the encoding of an instruction -/

/-- R100, R116: the length of a complete instruction is the one its first byte tells, since two more bytes are enough
for the decoder to find the same instruction. -/
theorem encode_eq_cons {i : Instr} (hi : i.wf = true) :
    ∃ op operands, encode i = op :: operands ∧ (encode i).length = opcodeLength op := by
  have hdecode := decode_encode hi [0x00, 0x00]
  match henc : encode i with
  | [] =>
    have hnop : decode ([] ++ [0x00, 0x00]) = .ok (.nop, [0x00]) := rfl
    rw [henc, hnop] at hdecode
    cases hdecode
  | op :: operands =>
    rw [henc, List.cons_append] at hdecode
    obtain ⟨b1, b2, rest, hpadded⟩ : ∃ b1 b2 rest, operands ++ [0x00, 0x00] = b1 :: b2 :: rest := by
      match operands with
      | [] => exact ⟨_, _, _, rfl⟩
      | [_] => exact ⟨_, _, _, rfl⟩
      | _ :: _ :: _ => exact ⟨_, _, _, rfl⟩
    obtain ⟨j, -, hlen, hj⟩ := decode_three_bytes op b1 b2 rest
    rw [← hpadded, hdecode] at hj
    obtain rfl : i = j := by
      injection hj with hj
      exact congrArg Prod.fst hj
    exact ⟨op, operands, rfl, henc ▸ hlen⟩

/-- R106, R116: where the encoding of a complete instruction is readable at PC, it is what is fetched. -/
theorem fetchInstruction_of_bytesAt {i : Instr} {s : State} (hi : i.wf = true) (h : bytesAt (encode i) s.pc s) :
    fetchInstruction s = (encode i,
      { s with pc := s.pc + BitVec.ofNat 16 (encode i).length, trace := s.trace ++ fetchCalls (encode i) s.pc }) := by
  obtain ⟨op, operands, henc, hlen⟩ := encode_eq_cons hi
  rw [← fetchBytes_of_bytesAt (encode i) s h]
  rw [henc] at h hlen
  obtain ⟨hreadable, hop, -⟩ := h
  have hfirst : (fetch8 s).1 = op := by rw [fetch8_of_readable hreadable, hop]
  have hrest : opcodeLength op - 1 = operands.length := by rw [← hlen, List.length_cons, Nat.add_sub_cancel]
  rw [fetchInstruction, hfirst, hrest, henc, List.length_cons, fetchBytes, hfirst]

/-- Settles O44: the bytes fetched are the encoding, which decodes to the instruction. -/
theorem stepRunsEncodedInstruction : Obligations.StepRunsEncodedInstruction := by
  intro s u i hi hu hrun hbytes
  subst hu
  have hfetch := fetchInstruction_of_bytesAt hi hbytes
  have hdecode := decode_encode hi []
  rw [List.append_nil] at hdecode
  have hstep := step_of_decode hrun (by rw [hfetch]; exact hdecode)
  rwa [hfetch] at hstep

/-! ## The count of a step -/

/-- R333, R335: what an instruction of the primary map costs in the recommended tables. -/
theorem cyclesPrimary_bounds : ∀ op : Byte, op ≠ 0xCB →
    (4 ≤ cyclesPrimary op ∧ cyclesPrimary op ≤ 24 ∧ cyclesPrimary op % 4 = 0) ∧
    (conditionOf op ≠ none → cyclesPrimary op + takenExtra op ≤ 24 ∧ takenExtra op % 4 = 0) := by
  decide

theorem cyclesExtended_bounds : ∀ op2 : Byte,
    4 ≤ cyclesExtended op2 ∧ cyclesExtended op2 ≤ 24 ∧ cyclesExtended op2 % 4 = 0 := by
  decide

/-- R298: an instruction costs 4 to 24 in the recommended tables. -/
theorem recommendedCost_bounds {i : Instr} (hi : i.wf = true) (s : State) :
    4 ≤ costIn cyclesPrimary cyclesExtended takenExtra i s ∧ costIn cyclesPrimary cyclesExtended takenExtra i s ≤ 24 ∧
      costIn cyclesPrimary cyclesExtended takenExtra i s % 4 = 0 := by
  obtain ⟨op, operands, henc, -⟩ := encode_eq_cons hi
  simp only [costIn, henc]
  by_cases hcb : op = 0xCB
  · rw [if_pos hcb]
    exact cyclesExtended_bounds _
  · obtain ⟨hbase, hextra⟩ := cyclesPrimary_bounds op hcb
    rw [if_neg hcb]
    cases hcond : conditionOf op with
    | none => exact hbase
    | some cc =>
      have := hextra (by simp [hcond])
      dsimp only
      split
      · omega
      · exact hbase

@[simp] theorem fetchInstruction_cycles (s : State) : (fetchInstruction s).2.cycles = s.cycles := by
  obtain ⟨_, _, _, _, _, _, _, h⟩ := fetchInstruction_snd s
  rw [h]

/-- R295: the check of a step leaves the entry's share as the count. -/
theorem serviceInterrupt_beginStep_cycles (s : State) : (serviceInterrupt s.beginStep).cycles.toNat =
    if s.ime && s.requests != 0 then Config.irqEntryCycles.val else 0 := by
  have hentry : (addCount 0 Config.irqEntryCycles.val).toNat = Config.irqEntryCycles.val := by
    have hfits : (0 : Byte).toNat + Config.irqEntryCycles.val < 256 := by
      have hzero : (0 : Byte).toNat = 0 := rfl
      omega
    rw [addCount_toNat hfits]
    exact Nat.zero_add _
  have hrequests : s.beginStep.requests = s.requests := rfl
  rw [serviceInterrupt_cycles, State.beginStep_ime, hrequests, State.beginStep_cycles, apply_ite BitVec.toNat, hentry]
  rfl

/-- Settles O45: the check leaves the entry's share, and what follows it adds 4 or the cost of the instruction
fetched. -/
theorem stepAlwaysReturns : Obligations.StepAlwaysReturns := by
  intro s u e hu he
  have hshare : u.cycles.toNat = e := by rw [hu, he, serviceInterrupt_beginStep_cycles]
  have hbound : e ≤ 231 := by
    have := Config.irqEntryCycles.isLt
    rw [he]
    split <;> omega
  have hparams : (fetchInstruction u).2.params = s.params := by simp [hu]
  rcases step_cases s with ⟨hhalted, hstep⟩ | ⟨hrun, i, hi, henc, hstep⟩ <;> rw [← hu] at *
  · have hgrows : CountGrows 4 u (u.charge 4) := .of_cycles rfl
    rw [CountGrows, hshare] at hgrows
    exact ⟨_, 4, hstep, hgrows, fun _ => rfl, fun h => by simp [hhalted] at h,
      fun _ => ⟨by omega, by omega, by omega, hgrows (by omega)⟩⟩
  · obtain ⟨t, hexec, hgrows⟩ := exec_counted hi (fetchInstruction u).2
    rw [CountGrows, fetchInstruction_cycles, hshare] at hgrows
    refine ⟨t, _, hstep.trans hexec, hgrows, fun h => by simp [hrun] at h, fun _ => ⟨i, hi, henc, rfl⟩, fun hr => ?_⟩
    rw [← hparams] at hr
    have hcost := recommendedCost_bounds hi (fetchInstruction u).2
    rw [← tableCost_of_recommended hr] at hcost
    obtain ⟨hleast, hmost, hmultiple⟩ := hcost
    exact ⟨hleast, hmost, hmultiple, hgrows (by omega)⟩

end Sys2Proof.Machine
end

section
/-! PROOFS. What happens between steps: batches of steps (R331), the DBG port (R304), reset (R320), and runs of steps
and moves of the environment (R306), through which the invariant is kept. -/

namespace Sys2Proof.Machine

/-! ## Batches -/

theorem executeBatch_succ {n c : Nat} {s t u : State} (hstep : step s = .next t)
    (hbatch : executeBatch n t = .next (c, u)) : executeBatch (n + 1) s = .next (t.cycles.toNat + c, u) := by
  simp only [executeBatch, hstep, hbatch]

/-- R325: no step stops, so no batch does. -/
theorem executeBatch_answers (n : Nat) (s : State) : ∃ c t, executeBatch n s = .next (c, t) := by
  induction n generalizing s with
  | zero => exact ⟨0, s, rfl⟩
  | succ n ih =>
    obtain ⟨t, hstep, -⟩ := step_keeps_params s
    obtain ⟨c, u, hbatch⟩ := ih t
    exact ⟨_, u, executeBatch_succ hstep hbatch⟩

/-- R331, by induction on the first batch. -/
theorem executeBatch_add {m n c c' : Nat} {s t u : State} (hfirst : executeBatch m s = .next (c, t))
    (hsecond : executeBatch n t = .next (c', u)) : executeBatch (m + n) s = .next (c + c', u) := by
  induction m generalizing s c with
  | zero =>
    obtain ⟨rfl, rfl⟩ : 0 = c ∧ s = t := by simpa [executeBatch] using hfirst
    rwa [Nat.zero_add, Nat.zero_add]
  | succ m ih =>
    obtain ⟨v, hstep, -⟩ := step_keeps_params s
    obtain ⟨d, w, hbatch⟩ := executeBatch_answers m v
    obtain ⟨rfl, rfl⟩ : v.cycles.toNat + d = c ∧ w = t := by
      simpa using (executeBatch_succ hstep hbatch).symm.trans hfirst
    rw [Nat.succ_add, Nat.add_assoc]
    exact executeBatch_succ hstep (ih hbatch)

/-- Settles O48: a batch of no step, one of one step, and one after another. -/
theorem batchIsStepsInSequence : Obligations.BatchIsStepsInSequence := by
  intro m n s
  obtain ⟨c, t, hfirst⟩ := executeBatch_answers m s
  obtain ⟨c', u, hsecond⟩ := executeBatch_answers n t
  exact ⟨rfl, fun t hstep => executeBatch_succ (n := 0) hstep rfl, c, c', t, u, hfirst, hsecond,
    executeBatch_add hfirst hsecond⟩

/-! ## Reset -/

/-- Settles O54: reset writes the register file; with IME and halted clear, the check after it does nothing. -/
theorem resetReplacesRegisterFile : Obligations.ResetReplacesRegisterFile := by
  refine ⟨fun r s => ?_, rfl, rfl, rfl⟩
  have hflags : FlagsAre r.fZ r.fN r.fH r.fC (s.applyReset r) :=
    setConstFlags_flags r.fZ r.fN r.fH r.fC s
  exact ⟨⟨rfl, rfl, rfl, rfl, rfl, rfl, rfl, rfl⟩, rfl, rfl, rfl, hflags, SameBus.refl s,
    serviceInterrupt_of_idle (.inr ⟨rfl, rfl⟩)⟩

/-! ## The debug port -/

theorem zext16_lo (v : Word) : zext16 (lo v) = v &&& 0x00FF := by
  apply BitVec.eq_of_toNat_eq
  have hmask : v.toNat &&& 255 = v.toNat % 256 := Nat.and_two_pow_sub_one_eq_mod v.toNat 8
  simp [zext16, hmask]
  omega

theorem bitWord_getLsbD (v : Word) : bitWord (v.getLsbD 0) = v &&& 0x0001 := by
  have hmask : v &&& 0x0001 = BitVec.setWidth 16 (BitVec.ofBool (v.getLsbD 0)) :=
    BitVec.and_one_eq_setWidth_ofBool_getLsbD
  rw [hmask]
  cases v.getLsbD 0 <;> rfl

theorem and_allOnes (v : Word) : v &&& 0xFFFF = v := BitVec.and_allOnes

/-- R47: N and H written with a canonical row read as the pair, in both representations. -/
theorem writeConst_reads (x : NHFlags) (n h : Bool) :
    (x.write n h (Deferred.canonical n h)).n = n ∧ (x.write n h (Deferred.canonical n h)).h = h :=
  NHFlags.write_reads x (canonical_n n h) (canonical_h n h)

/-- R304: the written field. -/
theorem dbgRead_dbgWrite (f : DbgField) (v : Word) (s : State) : dbgRead f (dbgWrite f v s) = v &&& dbgMask f := by
  cases f with
  | a => exact zext16_lo v
  | bc | de | hl => exact (join_hi_lo v).trans (and_allOnes v).symm
  | sp | pc => exact (and_allOnes v).symm
  | fZ | fC | ime | halted => exact bitWord_getLsbD v
  | fN => exact (congrArg bitWord (writeConst_reads s.nh (v.getLsbD 0) s.fH).1).trans (bitWord_getLsbD v)
  | fH => exact (congrArg bitWord (writeConst_reads s.nh s.fN (v.getLsbD 0)).2).trans (bitWord_getLsbD v)

/-- R304: the other fields. N and H are written together, each with its own value where the other is meant. -/
theorem dbgRead_dbgWrite_ne {f g : DbgField} (h : g ≠ f) (v : Word) (s : State) :
    dbgRead g (dbgWrite f v s) = dbgRead g s := by
  cases f with
  | fN =>
    cases g with
    | fN => exact absurd rfl h
    | fH => exact congrArg bitWord (writeConst_reads s.nh (v.getLsbD 0) s.fH).2
    | _ => rfl
  | fH =>
    cases g with
    | fH => exact absurd rfl h
    | fN => exact congrArg bitWord (writeConst_reads s.nh s.fN (v.getLsbD 0)).1
    | _ => rfl
  | _ => cases g <;> trivial

/-- Settles O55: a write of the port changes its field alone. -/
theorem debugPortReadsBack : Obligations.DebugPortReadsBack := by
  intro f g v s
  refine ⟨dbgRead_dbgWrite f v s, fun h => dbgRead_dbgWrite_ne h v s, ?_⟩
  cases f <;> exact SameBus.refl s

/-! ## Runs -/

/-- R304: N and H are written with a canonical row, and no write reaches memory. -/
theorem dbgWrite_keeps_inv (f : DbgField) (v : Word) {s : State} (hs : s.Inv) : (dbgWrite f v s).Inv := by
  cases f with
  | fN | fH => exact ⟨hs.mem, NHFlags.write_wf _ _ (canonical_wf _ _)⟩
  | _ => exact ⟨hs.mem, hs.nh⟩

/-- R306: a move of the environment writes memory through its canonical form, and N and H with a canonical row. -/
theorem envMove_keeps_inv (mv : EnvMove) {s : State} (hs : s.Inv) : (mv.apply s).Inv := by
  cases mv with
  | poke a v => exact ⟨Memory.wf_write_word hs.mem a v, hs.nh⟩
  | debug f v => exact dbgWrite_keeps_inv f v hs
  | reset r => exact ⟨hs.mem, NHFlags.write_wf _ _ (canonical_wf _ _)⟩
  | _ => exact ⟨hs.mem, hs.nh⟩

/-- By induction on the run. -/
theorem runHappenings_keeps_inv (hs : List Happening) {s : State} (hinv : s.Inv) :
    ∃ t, runHappenings hs s = .next t ∧ t.Inv := by
  induction hs generalizing s with
  | nil => exact ⟨s, rfl, hinv⟩
  | cons happening hs ih =>
    cases happening with
    | env mv => exact ih (envMove_keeps_inv mv hinv)
    | step =>
      obtain ⟨t, hstep, -⟩ := step_keeps_params s
      simp only [runHappenings, hstep]
      exact ih (stepKeepsInvariant s t hinv hstep)

/-- Settles O58: the moves, and the one state a run ends in. -/
theorem runKeepsInvariant : Obligations.RunKeepsInvariant := by
  refine ⟨fun mv _ => envMove_keeps_inv mv, fun hs s hinv => ?_⟩
  obtain ⟨t, hrun, ht⟩ := runHappenings_keeps_inv hs hinv
  refine ⟨⟨t, hrun⟩, fun u hu => ?_⟩
  obtain rfl : t = u := by simpa using hrun.symm.trans hu
  exact ht

end Sys2Proof.Machine
end
